-- ==== Sys2Proof/Word.lean ====
section
/-! DEFINITION. Sys2Proof/Word.lean: the widths the spec fixes (00_scope.md R9, R10): bytes, operands, command words. -/

namespace Sys2Proof

/-- A byte: 8 bits, unsigned (00_scope.md R10). Register addresses, data bytes and SPI bytes are bytes. -/
abbrev Byte := BitVec 8

/-- The operand `opd` of a command word (00_scope.md R9, 30_encoding.md R100). -/
abbrev Operand := BitVec 16

/-- A command word (30_encoding.md R100). -/
abbrev Word := BitVec 20

/-- A 7-bit I2C device address (20_memory.md R60). -/
abbrev DeviceAddr := BitVec 7

end Sys2Proof
end

