-- ==== Sys2Proof/Syntax.lean ====
section
/-! DEFINITION. Sys2Proof/Syntax.lean: the instructions, one constructor per row of spec/opcode_table.json:
twelve commands (30_encoding.md R102), four reserved opcodes (R117), two I2C transactions (R104, R105) and seven SPI
frames (R107). -/

namespace Sys2Proof

/-- The instructions. A command carries every operand bit of its word, the ignored ones too (`ign`, 30_encoding.md
R103, R118), because `CMD` latches the whole word (10_state.md R22). An SPI frame with don't-care bytes carries them
(`dc`, first sent byte in the most significant place); the block itself sends them as zero (30_encoding.md R109), see
`WellFormed`. -/
inductive Instr where
  /-- `I2C_RD a` (41_bus_transport.md R153), form A. -/
  | i2cRd (a : Byte) (ign : Byte)
  /-- `I2C_WR a, d` (41_bus_transport.md R154), form AD. -/
  | i2cWr (a : Byte) (d : Byte)
  /-- `SET_VAUX mv` (42_pmic_rails.md R182), form V. -/
  | setVaux (mv : Operand)
  /-- `SET_VIO mv` (42_pmic_rails.md R185), form V. -/
  | setVio (mv : Operand)
  /-- `SET_VFPGA en` (42_pmic_rails.md R187), form E: `en = opd[0]`. -/
  | setVfpga (ign : BitVec 15) (en : Bool)
  /-- `FL_WAKE` (43_flash.md R221), form N. -/
  | flWake (ign : Operand)
  /-- `FL_RESET` (43_flash.md R223), form N. -/
  | flReset (ign : Operand)
  /-- `FL_IDENT` (43_flash.md R225), form N. -/
  | flIdent (ign : Operand)
  /-- `FL_ERASE` (43_flash.md R227), form N. -/
  | flErase (ign : Operand)
  /-- `FL_BUSY` (43_flash.md R229), form N. -/
  | flBusy (ign : Operand)
  /-- `FPGA_HOLD` (44_fpga_reset.md R250), form N. -/
  | fpgaHold (ign : Operand)
  /-- `INIT` (45_init.md R260), form N. -/
  | init (ign : Operand)
  /-- Reserved opcode 0x0 (30_encoding.md R117). -/
  | reserved0 (ign : Operand)
  /-- Reserved opcode 0xD (30_encoding.md R117). -/
  | reservedD (ign : Operand)
  /-- Reserved opcode 0xE (30_encoding.md R117). -/
  | reservedE (ign : Operand)
  /-- Reserved opcode 0xF (30_encoding.md R117). -/
  | reservedF (ign : Operand)
  /-- The I2C register write transaction (30_encoding.md R104). -/
  | i2cRegWrite (a : Byte) (d : Byte)
  /-- The combined I2C register read transaction (30_encoding.md R105). -/
  | i2cRegRead (a : Byte)
  /-- The wake frame 0xAB, 4 bytes (30_encoding.md R107). -/
  | spiWake (dc : BitVec 24)
  /-- The reset-enable frame 0x66, 1 byte (30_encoding.md R107). -/
  | spiResetEnable
  /-- The reset-confirm frame 0x99, 1 byte (30_encoding.md R107). -/
  | spiResetConfirm
  /-- The identify frame 0x9F, 4 bytes (30_encoding.md R107). -/
  | spiIdentify (dc : BitVec 24)
  /-- The erase-enable frame 0x06, 1 byte (30_encoding.md R107). -/
  | spiEraseEnable
  /-- The chip-erase frame 0x60, 1 byte (30_encoding.md R107). -/
  | spiChipErase
  /-- The status frame 0x05, 2 bytes (30_encoding.md R107). -/
  | spiStatus (dc : Byte)
  deriving DecidableEq, Repr

/-- The bus transactions a command's micro-step can put on a bus (20_memory.md R66, 30_encoding.md R104, R105, R107):
the nine bus rows of the opcode table, as the sequencer issues them. -/
inductive Transfer where
  | regWrite (a : Byte) (d : Byte)
  | regRead (a : Byte)
  | wake (dc : BitVec 24)
  | resetEnable
  | resetConfirm
  | identify (dc : BitVec 24)
  | eraseEnable
  | chipErase
  | status (dc : Byte)
  deriving DecidableEq, Repr

end Sys2Proof
end

