-- ==== Sys2Proof/Decode.lean ====
section
/-! DEFINITION. Sys2Proof/Decode.lean: the decoder of the three encodings of 30_encoding.md (command words, I2C
transactions, SPI frames), the encoder, and the entry the opcode table's own numbering uses. -/

namespace Sys2Proof

/-- The PMIC's 7-bit device address `I2C_DEV` (00_scope.md R7, 41_bus_transport.md R158). -/
def i2cDev : DeviceAddr := 0x48

/-- What an instruction looks like where it stands: a word on the command port (30_encoding.md R100), an I2C
transaction (device, bytes sent, how many bytes are read back; R104, R105) or the bytes an SPI frame sends (R107). -/
inductive Wire where
  | command (w : Word)
  | i2c (dev : DeviceAddr) (sent : List Byte) (nRead : Nat)
  | spi (tx : List Byte)
  deriving DecidableEq, Repr

/-- Why bytes on a bus are none of the block's instructions. -/
inductive DecodeError where
  /-- An I2C device other than 0x48, which no transaction of the block addresses (41_bus_transport.md R158). -/
  | otherDevice (dev : DeviceAddr)
  /-- Not one address byte and one data byte, written or read (20_memory.md R71, 30_encoding.md R104, R105). -/
  | notARegisterAccess
  /-- An SPI frame that is not one of the seven of 30_encoding.md R107 (closed set, R108). -/
  | notABlockFrame
  deriving DecidableEq, Repr

/-- The opcode field `op = word[19:16]` (30_encoding.md R100). -/
def opField (w : Word) : BitVec 4 := w.extractLsb' 16 4

/-- The operand field `opd = word[15:0]` (30_encoding.md R100). -/
def opdField (w : Word) : Operand := w.extractLsb' 0 16

/-- `opd[15:8]`: the register address of forms A and AD (30_encoding.md R103, R114). -/
def hiByte (o : Operand) : Byte := o.extractLsb' 8 8

/-- `opd[7:0]`: the value byte of form AD, ignored by form A (30_encoding.md R103, R114). -/
def loByte (o : Operand) : Byte := o.extractLsb' 0 8

/-- Decoding a command word (30_encoding.md R102, R103). Total: every word is a command or reserved (R119), and
ignored bits never reject one (R118). -/
def decodeCommand (w : Word) : Instr :=
  match (opField w).toNat with
  | 0x0 => .reserved0 (opdField w)
  | 0x1 => .i2cRd (hiByte (opdField w)) (loByte (opdField w))
  | 0x2 => .i2cWr (hiByte (opdField w)) (loByte (opdField w))
  | 0x3 => .setVaux (opdField w)
  | 0x4 => .setVio (opdField w)
  | 0x5 => .setVfpga ((opdField w).extractLsb' 1 15) ((opdField w).getLsbD 0)
  | 0x6 => .flWake (opdField w)
  | 0x7 => .flReset (opdField w)
  | 0x8 => .flIdent (opdField w)
  | 0x9 => .flErase (opdField w)
  | 0xA => .flBusy (opdField w)
  | 0xB => .fpgaHold (opdField w)
  | 0xC => .init (opdField w)
  | 0xD => .reservedD (opdField w)
  | 0xE => .reservedE (opdField w)
  | _ => .reservedF (opdField w)

/-- Decoding an I2C transaction: two bytes written are a register write, one byte written and one read back are a
register read (30_encoding.md R104, R105); only device 0x48 is addressed (41_bus_transport.md R158). -/
def decodeI2c (dev : DeviceAddr) (sent : List Byte) (nRead : Nat) : Except DecodeError Instr :=
  if dev = i2cDev then
    match sent, nRead with
    | [a, d], 0 => .ok (.i2cRegWrite a d)
    | [a], 1 => .ok (.i2cRegRead a)
    | _, _ => .error .notARegisterAccess
  else .error (.otherDevice dev)

/-- Decoding an SPI frame from the bytes it sends: the opcode is `tx[0]` (20_memory.md R68) and fixes the length
(30_encoding.md R107); the other bytes are don't-care (R109). The opcode set is closed (R108). -/
def decodeSpi (tx : List Byte) : Except DecodeError Instr :=
  match tx with
  | [op] =>
    if op = 0x66 then .ok .spiResetEnable
    else if op = 0x99 then .ok .spiResetConfirm
    else if op = 0x06 then .ok .spiEraseEnable
    else if op = 0x60 then .ok .spiChipErase
    else .error .notABlockFrame
  | [op, x] => if op = 0x05 then .ok (.spiStatus x) else .error .notABlockFrame
  | [op, x, y, z] =>
    if op = 0xAB then .ok (.spiWake (x ++ y ++ z))
    else if op = 0x9F then .ok (.spiIdentify (x ++ y ++ z))
    else .error .notABlockFrame
  | _ => .error .notABlockFrame

/-- Decoding whatever stands on the port or on a bus. -/
def decode : Wire → Except DecodeError Instr
  | .command w => .ok (decodeCommand w)
  | .i2c dev sent nRead => decodeI2c dev sent nRead
  | .spi tx => decodeSpi tx

/-- A command word from its two fields (30_encoding.md R100, R120: `op << 16 | opd`). -/
def commandOf (op : BitVec 4) (opd : Operand) : Word := op ++ opd

/-- The three don't-care bytes of a 4-byte frame, the first sent one in the most significant place. -/
def dcBytes (dc : BitVec 24) : List Byte := [dc.extractLsb' 16 8, dc.extractLsb' 8 8, dc.extractLsb' 0 8]

/-- The encoder: the word or the bus transaction of an instruction (30_encoding.md R102 to R107, R117). -/
def encode : Instr → Wire
  | .i2cRd a ign => .command (commandOf 0x1 (a ++ ign))
  | .i2cWr a d => .command (commandOf 0x2 (a ++ d))
  | .setVaux mv => .command (commandOf 0x3 mv)
  | .setVio mv => .command (commandOf 0x4 mv)
  | .setVfpga ign en => .command (commandOf 0x5 (ign ++ BitVec.ofBool en))
  | .flWake ign => .command (commandOf 0x6 ign)
  | .flReset ign => .command (commandOf 0x7 ign)
  | .flIdent ign => .command (commandOf 0x8 ign)
  | .flErase ign => .command (commandOf 0x9 ign)
  | .flBusy ign => .command (commandOf 0xA ign)
  | .fpgaHold ign => .command (commandOf 0xB ign)
  | .init ign => .command (commandOf 0xC ign)
  | .reserved0 ign => .command (commandOf 0x0 ign)
  | .reservedD ign => .command (commandOf 0xD ign)
  | .reservedE ign => .command (commandOf 0xE ign)
  | .reservedF ign => .command (commandOf 0xF ign)
  | .i2cRegWrite a d => .i2c i2cDev [a, d] 0
  | .i2cRegRead a => .i2c i2cDev [a] 1
  | .spiWake dc => .spi (0xAB :: dcBytes dc)
  | .spiResetEnable => .spi [0x66]
  | .spiResetConfirm => .spi [0x99]
  | .spiIdentify dc => .spi (0x9F :: dcBytes dc)
  | .spiEraseEnable => .spi [0x06]
  | .spiChipErase => .spi [0x60]
  | .spiStatus dc => .spi [0x05, dc]

/-- The word a command was given as: what `CMD` latches and the events `Accept` and `Complete` carry (10_state.md R22,
00_scope.md R14). A bus transaction has none; the zero is never read, no meaning asks for it. -/
def commandWord (i : Instr) : Word :=
  match encode i with
  | .command w => w
  | .i2c _ _ _ => 0
  | .spi _ => 0

/-- The bytes an SPI frame sends (30_encoding.md R107); none for an instruction that is no frame. -/
def frameBytes (i : Instr) : List Byte :=
  match encode i with
  | .command _ => []
  | .i2c _ _ _ => []
  | .spi tx => tx

/-- The bus row of the opcode table that a transfer of the sequencer is. -/
def transferInstr : Transfer → Instr
  | .regWrite a d => .i2cRegWrite a d
  | .regRead a => .i2cRegRead a
  | .wake dc => .spiWake dc
  | .resetEnable => .spiResetEnable
  | .resetConfirm => .spiResetConfirm
  | .identify dc => .spiIdentify dc
  | .eraseEnable => .spiEraseEnable
  | .chipErase => .spiChipErase
  | .status dc => .spiStatus dc

/-- The transfer that a bus row of the opcode table is; none for a command. -/
def instrTransfer : Instr → Option Transfer
  | .i2cRd _ _ => none
  | .i2cWr _ _ => none
  | .setVaux _ => none
  | .setVio _ => none
  | .setVfpga _ _ => none
  | .flWake _ => none
  | .flReset _ => none
  | .flIdent _ => none
  | .flErase _ => none
  | .flBusy _ => none
  | .fpgaHold _ => none
  | .init _ => none
  | .reserved0 _ => none
  | .reservedD _ => none
  | .reservedE _ => none
  | .reservedF _ => none
  | .i2cRegWrite a d => some (.regWrite a d)
  | .i2cRegRead a => some (.regRead a)
  | .spiWake dc => some (.wake dc)
  | .spiResetEnable => some .resetEnable
  | .spiResetConfirm => some .resetConfirm
  | .spiIdentify dc => some (.identify dc)
  | .spiEraseEnable => some .eraseEnable
  | .spiChipErase => some .chipErase
  | .spiStatus dc => some (.status dc)

/-- Byte `i` of a number laid out lowest byte first. -/
def byteOf (w i : Nat) : Byte := BitVec.ofNat 8 (w / 256 ^ i)

/-- How many bytes the SPI frame with this opcode has in all (30_encoding.md R107); 1 for an opcode of no frame. -/
def frameLength (op : Byte) : Nat :=
  if op = 0xAB ∨ op = 0x9F then 4 else if op = 0x05 then 2 else 1

/-- A bus row of the table laid out from the number of its bits, lowest byte first. Byte 0 is `tx[0]` of a frame, or
carries the 7-bit device address in bits 6..0. The table gives the two I2C rows the same bits; bit 7, which it leaves
free, is taken as the direction: 0 is a register write (address, data in bytes 1 and 2), 1 a register read (log 20). -/
def busWire (w : Nat) : Wire :=
  if (byteOf w 0).extractLsb' 0 7 = i2cDev then
    if (byteOf w 0).getLsbD 7 then .i2c i2cDev [byteOf w 1] 1
    else .i2c i2cDev [byteOf w 1, byteOf w 2] 0
  else .spi ((List.range (frameLength (byteOf w 0))).map (byteOf w))

/-- The instruction the decoder reads from a table row's bits: 17 to 24 bits are a 20-bit command word (the bits above
bit 19 must be 0), every other length is a bus row. -/
def decodeTableWord (nbits w : Nat) : Option Instr :=
  if 17 ≤ nbits ∧ nbits ≤ 24 then
    if w < 2 ^ 20 then some (decodeCommand (BitVec.ofNat 20 w)) else none
  else
    match decode (busWire w) with
    | .ok i => some i
    | .error _ => none

end Sys2Proof
end

