-- ==== Sys2Proof/Machine/Memory.lean ====
section
/-! DEFINITION. Sys2Proof/Machine/Memory.lean: the PMIC register space as the block knows it (20_memory.md R60, R61;
42_pmic_rails.md R196). The block has no memory of its own; this is the ghost `pmic_w`, at most one byte for each of
the 256 register addresses (log 23). -/

namespace Sys2Proof.Machine

/-- (address, byte) pairs, addresses strictly rising. An unlisted address holds no known byte (10_state.md R48: `none`
for every address after reset). -/
abbrev Memory := List Host.Cell

/-- What an unlisted address reads as: nothing known (42_pmic_rails.md R196). -/
def Memory.unlisted : Option Byte := none

/-- The canonical form: addresses strictly rising and all below 256 (20_memory.md R60). An entry always holds a byte,
so none equals what an unlisted address reads as. -/
def Memory.wf (m : Memory) : Bool :=
  decide (m.Pairwise (fun x y => x.1 < y.1)) && m.all (fun c => decide (c.1 < 256))

/-- The entry at a key. -/
def Memory.lookup : Memory → Nat → Option Byte
  | [], _ => Memory.unlisted
  | (k, v) :: rest, a => if a = k then some v else Memory.lookup rest a

/-- Puts an entry at its place in the rising order, replacing one that is there. -/
def Memory.insert : Memory → Nat → Byte → Memory
  | [], a, d => [(a, d)]
  | (k, v) :: rest, a, d =>
    if a < k then (a, d) :: (k, v) :: rest
    else if a = k then (a, d) :: rest
    else (k, v) :: Memory.insert rest a d

/-- Takes the entry at a key away. -/
def Memory.erase (m : Memory) (a : Nat) : Memory := m.filter (fun c => c.1 != a)

/-- `pmic_w[a]` (42_pmic_rails.md R196). -/
def Memory.read (m : Memory) (a : Byte) : Option Byte := Memory.lookup m a.toNat

/-- `pmic_w[a] <- some d` (42_pmic_rails.md R196). All eight bits are replaced (20_memory.md R72). -/
def Memory.write (m : Memory) (a d : Byte) : Memory := Memory.insert m a.toNat d

/-- `pmic_w[a] <- none` (20_memory.md R75, 42_pmic_rails.md R196). -/
def Memory.forget (m : Memory) (a : Byte) : Memory := Memory.erase m a.toNat

end Sys2Proof.Machine
end

