-- ==== Sys2Proof/Machine/State.lean ====
section
/-! DEFINITION. Sys2Proof/Machine/State.lean: the state of the block (10_state.md R20), its ports (R21), the trace and
the ghost state (00_scope.md R14, 10_state.md R47), and what the environment will do; and the state after reset (R48).
Plain data. -/

namespace Sys2Proof.Machine

/-- The four result codes (60_exceptions.md R270); the set is closed. -/
inductive Result where
  | success | invalidSetting | pmicError | flashError
  deriving DecidableEq, Repr

/-- The two buses; the cause of a fatal abort (60_exceptions.md R283). -/
inductive Bus where
  | i2c | spi
  deriving DecidableEq, Repr

/-- The direction of a register access (00_scope.md R14, `kind`). -/
inductive Access where
  | rd | wr
  deriving DecidableEq, Repr

/-- The mode of the FPGA reset pin, `cfg[RST]` (10_state.md R36). -/
inductive RstMode where
  | hiz | out
  deriving DecidableEq, Repr

/-- The mode of the FPGA done pin, `cfg[DONE]` (10_state.md R36). -/
inductive DoneMode where
  | hiz | inPullup
  deriving DecidableEq, Repr

/-- The events of the trace (00_scope.md R14). `PinCfg(RST, m)` and `PinCfg(DONE, m)` are two constructors; `PinSet`
is always of the reset pin, the only one with a latch (10_state.md R36); `Fatal` carries the cause, which exists only in
the trace (60_exceptions.md R285; log 18). -/
inductive Event where
  | i2cInit
  | spiInit
  | pinCfgRst (m : RstMode)
  | pinCfgDone (m : DoneMode)
  | pinSet (l : Bool)
  | i2cWr (a d : Byte)
  | i2cRd (a d : Byte)
  | i2cFail (kind : Access) (a : Byte)
  | spiFrame (tx rx : List Byte)
  | spiFail (tx : List Byte)
  | delay (us : Nat)
  | accept (w : Word)
  | complete (w : Word) (r : Result) (rdata : Byte)
  | fatal (cause : Bus)
  deriving DecidableEq, Repr

/-- One line of a command's pseudocode. `cfgRst`, `cfgDone`, `i2cInit`, `pinLow`, `xfer` and `delay` are primitives
that touch a bus, a pin or time (00_scope.md R12); the others are register writes, two-way branches and the end of a
command (10_state.md R28). -/
inductive Micro where
  /-- `cfg[RST] <- OUT` (45_init.md R260). -/
  | cfgRst
  /-- `cfg[DONE] <- IN_PULLUP` (45_init.md R260). -/
  | cfgDone
  /-- `i2c_en <- 1` (45_init.md R260). -/
  | i2cInit
  /-- `pin[RST] <- 0` (44_fpga_reset.md R250). -/
  | pinLow
  /-- `MemRead`, `MemWrite` or `SpiXfer` (41_bus_transport.md R150 to R152). -/
  | xfer (x : Transfer)
  /-- `x[RDATA] <- d` (41_bus_transport.md R153). -/
  | storeByte
  /-- `x[RDATA] <- zext_8(rx[1][0])` (43_flash.md R229). -/
  | storeBusy
  /-- `if (c & VIO_LSW_MASK) != 0: complete(InvalidSetting)` (42_pmic_rails.md R182 step 2). -/
  | checkInterlock
  /-- `if id != 0x7A: complete(PmicError)` (45_init.md R260). -/
  | checkId
  /-- `if rx[3] = 0x16 ... else: complete(FlashError)` (43_flash.md R225). -/
  | checkCapacity
  /-- `DelayAtLeast(us)`: loads the delay counter (60_exceptions.md R292, R293). -/
  | delay (us : Nat)
  /-- The delay counter runs down (60_exceptions.md R293). -/
  | wait
  /-- `complete(r)` (10_state.md R27). -/
  | complete (r : Result)
  deriving DecidableEq, Repr

/-- The sequencer state (10_state.md R26). `RUN(step)` counts the micro-steps done and carries the lines still to do:
the count alone does not say which micro-step is next (log 2). -/
inductive Seq where
  | idle
  | run (step : Nat) (todo : List Micro)
  | fatal
  deriving DecidableEq, Repr

/-- Four bytes: the SPI frame buffers `tx[0..3]` and `rx[0..3]` (10_state.md R41). -/
structure Buf where
  b0 : Byte
  b1 : Byte
  b2 : Byte
  b3 : Byte
  deriving DecidableEq, Repr

/-- The oracle's answer to one transfer (20_memory.md R64): ok or fail, and the bytes it returns. An I2C read takes the
first byte, an SPI frame as many as it sends, an I2C write none. -/
structure Answer where
  ok : Bool
  bytes : Buf
  deriving DecidableEq, Repr

/-- What the host does at the block's ports (10_state.md R21, 44_fpga_reset.md R252). -/
inductive HostAct where
  /-- `cmd_valid = 1` with `cmd = w`. -/
  | command (w : Word)
  /-- `HostPinWrite(RST, l)`. -/
  | pinWrite (l : Bool)
  deriving DecidableEq, Repr

/-- The state of the machine. -/
structure State where
  /-- `CMD` (10_state.md R22; after a completion, log 26). -/
  cmd : Word
  /-- `STATUS` (10_state.md R23). -/
  status : Result
  /-- `RDATA` (10_state.md R24). -/
  rdata : Byte
  /-- `seq` (10_state.md R26). -/
  seq : Seq
  /-- `i2c_en` (10_state.md R37). -/
  i2cEn : Bool
  /-- `spi_init` (10_state.md R38). -/
  spiInit : Bool
  /-- `cfg[RST]` (10_state.md R36). -/
  cfgRst : RstMode
  /-- `pin[RST]`: `false` holds the FPGA in reset (10_state.md R36, 30_encoding.md R111). -/
  pinRst : Bool
  /-- `cfg[DONE]` (10_state.md R36). -/
  cfgDone : DoneMode
  /-- `tx[0..3]` (10_state.md R41). -/
  tx : Buf
  /-- `rx[0..3]` (10_state.md R41). -/
  rx : Buf
  /-- `len`, 1..4 (10_state.md R41). -/
  len : Nat
  /-- `dly`, ticks left (10_state.md R44). -/
  dly : Nat
  /-- `rsp_valid` in this cycle (10_state.md R21, R27; log 17). -/
  rspValid : Bool
  /-- The level of the input `rst` (10_state.md R21, 70_reset_and_hazards.md R310; log 5). -/
  rst : Bool
  /-- What the host will do next, in order, each held until the block is idle (log 4). -/
  inputs : List HostAct
  /-- MODEL's own: the byte the last `MemRead` returned, the pseudocode's `d`, `c`, `id`. -/
  ret : Byte
  /-- MODEL's own: the oracle's answers to the transfers of the run, in order; beyond its end the answers are free
  (20_memory.md R64; log 3). -/
  script : List Answer
  /-- MODEL's own: how many answers have been asked for (log 3). -/
  asked : Nat
  /-- The trace, oldest event first (00_scope.md R14). Not hardware state. -/
  trace : List Event
  /-- Ghost: `pmic_w` (42_pmic_rails.md R196). Not hardware state. -/
  pmicW : Memory
  deriving DecidableEq, Repr

/-- Why the machine stops with a fault: never. The one abort the spec describes, a failed bus transfer, is a next state
with `seq = FATAL` (60_exceptions.md R283, R286), and every address exists (20_memory.md R61). -/
inductive Fault where
  deriving DecidableEq, Repr

/-- Why an instruction has no meaning. -/
inductive Refusal where
  /-- Raised by no arm of `exec`: every instruction of the table has its meaning. It would be safe (nothing can be
  proved of a refused instruction). -/
  | notModelled (mnemonic : String)
  deriving DecidableEq, Repr

/-- Four zero bytes. -/
def Buf.zero : Buf := { b0 := 0, b1 := 0, b2 := 0, b3 := 0 }

/-- The state after reset (10_state.md R48). `cmd`, `rdata`, `tx`, `rx`, `len` are unspecified there and hold the
values of log 6; `rst`, `inputs`, `rspValid`, `ret`, `script`, `asked` those of log 7. -/
def State.reset : State where
  cmd := 0
  status := .success
  rdata := 0
  seq := .idle
  i2cEn := false
  spiInit := false
  cfgRst := .hiz
  pinRst := false
  cfgDone := .hiz
  tx := Buf.zero
  rx := Buf.zero
  len := 1
  dly := 0
  rspValid := false
  rst := false
  inputs := []
  ret := 0
  script := []
  asked := 0
  trace := []
  pmicW := []

end Sys2Proof.Machine
end

