-- ==== Sys2Proof/Machine/Flags.lean ====
section
/-! DEFINITION. Sys2Proof/Machine/Flags.lean: the flags and the output ports, as functions of the state (10_state.md
R21, R29, R30, R36; 30_encoding.md R110; 60_exceptions.md R270). There are no condition codes (10_state.md R31). -/

namespace Sys2Proof.Machine

/-- `busy` (10_state.md R29). -/
def State.busy (s : State) : Bool :=
  match s.seq with
  | .idle => false
  | .run _ _ => true
  | .fatal => false

/-- `fatal` (10_state.md R30). -/
def State.fatal (s : State) : Bool :=
  match s.seq with
  | .idle => false
  | .run _ _ => false
  | .fatal => true

/-- `cmd_ready` (10_state.md R21). -/
def State.cmdReady (s : State) : Bool :=
  match s.seq with
  | .idle => true
  | .run _ _ => false
  | .fatal => false

/-- The numbering of the result codes (60_exceptions.md R270). -/
def resultBits : Result → BitVec 2
  | .success => 0
  | .invalidSetting => 1
  | .pmicError => 2
  | .flashError => 3

/-- `rsp_status[1:0]` (10_state.md R21, 30_encoding.md R110). -/
def State.rspStatus (s : State) : BitVec 2 := resultBits s.status

/-- `rsp_data[7:0]` (10_state.md R21, 30_encoding.md R110). -/
def State.rspData (s : State) : Byte := s.rdata

/-- The tri-state output `fpga_rst_n`: not driven while `cfg[RST] = HIZ`, else at the latch's level (10_state.md R36,
44_fpga_reset.md R254). -/
def State.fpgaRstN (s : State) : Option Bool :=
  match s.cfgRst with
  | .hiz => none
  | .out => some s.pinRst

end Sys2Proof.Machine
end

