-- ==== Sys2Proof/Config.lean ====
section
/-! DEFINITION. Sys2Proof/Config.lean: what the spec leaves open, as constants with no body (00_scope.md R8,
92_eei_decisions.md P1 to P11, 20_memory.md R64). Nothing can be proved of their values. The patterns with their
constraints are built from them in Machine/Constants.lean. -/

namespace Sys2Proof.Config

/-- P1 `VAUX_EN` (00_scope.md R8; log 8). -/
opaque vauxEn : Byte
/-- P2 `VAUX_DIS`, before the constraint `VAUX_EN != VAUX_DIS` is imposed (00_scope.md R8; log 8). -/
opaque vauxDisRaw : Byte
/-- P3 `VIO_DIS`, before the constraint `VIO_EN != VIO_DIS` is imposed (00_scope.md R8; log 8). -/
opaque vioDisRaw : Byte
/-- P4 `VFPGA_EN` (00_scope.md R8; log 8). -/
opaque vfpgaEn : Byte
/-- P5 `VFPGA_DIS`, before the constraint `VFPGA_EN != VFPGA_DIS` is imposed (00_scope.md R8; log 8). -/
opaque vfpgaDisRaw : Byte
/-- P6 `VFPGA_TGT`, the byte that stands for 1.2 V (00_scope.md R8, 40_voltage_encoder.md R141; log 8). -/
opaque vfpgaTgt : Byte
/-- P7: which bit of the Vio control register is the load-switch bit (00_scope.md R8; log 8). -/
opaque vioLswBit : Fin 8

/-- The eight pins whose numbers are parameter P8 (00_scope.md R8, 20_memory.md R63). -/
inductive PinName where
  | fpgaRst | fpgaDone | spiSck | spiMosi | spiMiso | spiCs | i2cScl | i2cSda
  deriving DecidableEq, Repr

/-- P8: the pin numbers. No rule reads them (log 9). -/
opaque pinNumber : PinName → Nat

/-- P9 `CLK_HZ` less one: `CLK_HZ` is a positive integer (00_scope.md R8; log 9). -/
opaque clkHzPred : Nat

/-- P10 `SPI_MODE`, (CPOL, CPHA). No rule reads it (log 9). -/
opaque spiMode : Bool × Bool

/-- P10 `SPI_CLK_HZ` less one. No rule reads it (log 9). -/
opaque spiClkHzPred : Nat

/-- P11 `I2C_CLK_HZ` less one. No rule reads it (log 9). -/
opaque i2cClkHzPred : Nat

/-- The oracle's ok/fail answer to the n-th transfer since the run began, where the state scripts none (20_memory.md
R64, 93_implementation_defined.md U4; log 3). -/
opaque freeOk : Nat → Bool

/-- The oracle's i-th byte in its answer to the n-th transfer, where the state scripts none (20_memory.md R64,
93_implementation_defined.md U2, U3; log 3). -/
opaque freeByte : Nat → Nat → Byte

end Sys2Proof.Config
end

