-- ==== Sys2Proof/Machine/Constants.lean ====
section
/-! DEFINITION. Sys2Proof/Machine/Constants.lean: the constants the source fixes (00_scope.md R7) and the open patterns
with the constraints a model may assume of them (00_scope.md R8). -/

namespace Sys2Proof.Machine

/-- `REG_CID` (00_scope.md R7). -/
def regCid : Byte := 0x14
/-- `CID_EXPECT` (00_scope.md R7). -/
def cidExpect : Byte := 0x7A
/-- `REG_VFPGA_TGT` (00_scope.md R7). -/
def regVfpgaTgt : Byte := 0x2B
/-- `REG_VFPGA_CTL` (00_scope.md R7). -/
def regVfpgaCtl : Byte := 0x2C
/-- `REG_VAUX_TGT` (00_scope.md R7). -/
def regVauxTgt : Byte := 0x2D
/-- `REG_VAUX_CTL` (00_scope.md R7). -/
def regVauxCtl : Byte := 0x2E
/-- `REG_VIO_TGT` (00_scope.md R7). -/
def regVioTgt : Byte := 0x38
/-- `REG_VIO_CTL` (00_scope.md R7). -/
def regVioCtl : Byte := 0x39
/-- `VIO_EN` (00_scope.md R7). -/
def vioEn : Byte := 0x0E
/-- `CAP_EXPECT` (00_scope.md R7). -/
def capExpect : Byte := 0x16
/-- `T_WAKE_US` (00_scope.md R7). -/
def wakeUs : Nat := 3
/-- `T_RESET_US` (00_scope.md R7). -/
def resetUs : Nat := 30

/-- `VAUX_MIN`, in volts (00_scope.md R7). -/
def vauxMin : Rat := 4 / 5
/-- `VAUX_MAX`, in volts (00_scope.md R7). -/
def vauxMax : Rat := 11 / 2
/-- `VIO_MIN`, in volts (00_scope.md R7). -/
def vioMin : Rat := 4 / 5
/-- `VIO_MAX`, in volts (00_scope.md R7). -/
def vioMax : Rat := 173 / 50
/-- `V_INTERLOCK`, in volts (00_scope.md R7). -/
def vInterlock : Rat := 173 / 50
/-- `V_OFFSET`, in volts (00_scope.md R7). -/
def vOffset : Rat := 4 / 5
/-- `VAUX_STEP`, in volts (00_scope.md R7). -/
def vauxStep : Rat := 1 / 20
/-- `VIO_STEP`, in volts (00_scope.md R7). -/
def vioStep : Rat := 1 / 40
/-- `VFPGA_VOLTS`, the fixed voltage of the core rail, in volts (00_scope.md R7). Its register code is open: P6,
`vfpgaTgt`. -/
def vfpgaVolts : Rat := 6 / 5

/-- A byte different from `x`, and any such byte for some `raw`: how the constraint "the two patterns of a rail differ"
(00_scope.md R8) is put on an open byte (log 8). -/
def otherThan (x raw : Byte) : Byte := if raw = x then x + 1 else raw

/-- P1 `VAUX_EN`. -/
def vauxEn : Byte := Config.vauxEn
/-- P2 `VAUX_DIS`, different from `VAUX_EN` (00_scope.md R8). -/
def vauxDis : Byte := otherThan Config.vauxEn Config.vauxDisRaw
/-- P3 `VIO_DIS`, different from `VIO_EN` (00_scope.md R8). -/
def vioDis : Byte := otherThan vioEn Config.vioDisRaw
/-- P4 `VFPGA_EN`. -/
def vfpgaEn : Byte := Config.vfpgaEn
/-- P5 `VFPGA_DIS`, different from `VFPGA_EN` (00_scope.md R8). -/
def vfpgaDis : Byte := otherThan Config.vfpgaEn Config.vfpgaDisRaw
/-- P6 `VFPGA_TGT`, the code that stands for `VFPGA_VOLTS` (40_voltage_encoder.md R141). -/
def vfpgaTgt : Byte := Config.vfpgaTgt
/-- P7 `VIO_LSW_MASK`: exactly one bit set (00_scope.md R8). -/
def vioLswMask : Byte := BitVec.twoPow 8 Config.vioLswBit.val

/-- P9 `CLK_HZ`, positive (00_scope.md R8). -/
def clkHz : Nat := Config.clkHzPred + 1

end Sys2Proof.Machine
end

