-- ==== Sys2Proof/Machine/Operands.lean ====
section
/-! DEFINITION. Sys2Proof/Machine/Operands.lean: the voltage operand (form V, 30_encoding.md R113): range checks, the
interlock threshold and the two encoders (40_voltage_encoder.md). The field extraction of the other forms (R114, R115)
is in Decode.lean. -/

namespace Sys2Proof.Machine

/-- Step 1 of `SET_VAUX` (42_pmic_rails.md R182): zero is exempt (R183), 800 and 5500 are accepted
(40_voltage_encoder.md R139). -/
def vauxRejected (mv : Operand) : Bool := mv.toNat != 0 && (decide (mv.toNat < 800) || decide (5500 < mv.toNat))

/-- Step 1 of `SET_VIO` (42_pmic_rails.md R185). -/
def vioRejected (mv : Operand) : Bool := mv.toNat != 0 && (decide (mv.toNat < 800) || decide (3460 < mv.toNat))

/-- The interlock applies strictly above 3.46 V (42_pmic_rails.md R190, 40_voltage_encoder.md R139). -/
def needsInterlock (mv : Operand) : Bool := decide (3460 < mv.toNat)

/-- `ENC_VAUX` on millivolts (40_voltage_encoder.md R132). No code outside the range (R137). -/
def encVaux (mv : Operand) : Option Byte :=
  if 800 ≤ mv.toNat ∧ mv.toNat ≤ 5500 then some (BitVec.ofNat 8 ((mv.toNat - 775) / 50)) else none

/-- `ENC_VIO` on millivolts (40_voltage_encoder.md R132). No code outside the range (R137). -/
def encVio (mv : Operand) : Option Byte :=
  if 800 ≤ mv.toNat ∧ mv.toNat ≤ 3460 then some (BitVec.ofNat 8 ((2 * mv.toNat - 1575) / 50)) else none

/-- The voltage an operand stands for, in volts, exactly (00_scope.md R11, 30_encoding.md R113). -/
def volts (mv : Operand) : Rat := (mv.toNat : Rat) / 1000

/-- `round_half_up` (00_scope.md R13). -/
def roundHalfUp (q : Rat) : Int := (q + 1 / 2).floor

/-- The encoder over the rationals (40_voltage_encoder.md R131), for a rail with range `lo` to `hi` and step `step`. -/
def encVolts (lo hi step v : Rat) : Option Int :=
  if lo ≤ v ∧ v ≤ hi then some (roundHalfUp ((v - vOffset) / step)) else none

/-- `ENC_VAUX` on volts (40_voltage_encoder.md R131). -/
def encVauxVolts (v : Rat) : Option Int := encVolts vauxMin vauxMax vauxStep v

/-- `ENC_VIO` on volts (40_voltage_encoder.md R131). -/
def encVioVolts (v : Rat) : Option Int := encVolts vioMin vioMax vioStep v

/-- `c & VIO_LSW_MASK != 0` (42_pmic_rails.md R182, R190). -/
def loadSwitchSet (c : Byte) : Bool := (c &&& vioLswMask) != 0

/-- `zext_8(b[0])` (43_flash.md R229): 0x01 for a set bit, 0x00 for a clear one. -/
def bitZero (b : Byte) : Byte := if b.getLsbD 0 then 0x01 else 0x00

/-- How many clock ticks make at least this many microseconds: `ceil(n * CLK_HZ / 1_000_000)` (60_exceptions.md R293). -/
def delayTicks (us : Nat) : Nat := (us * clkHz + 999999) / 1000000

end Sys2Proof.Machine
end

