-- ==== Sys2Proof/Machine/Ops.lean ====
section
/-! DEFINITION. Sys2Proof/Machine/Ops.lean: the shared operations: the trace, the oracle, the sequencer's step count,
completion, the fatal abort and the reset that is the only return from it, the three bus primitives, and the running of a
command's lines. -/

namespace Sys2Proof.Machine

/-- Appends an event to the trace (00_scope.md R14). -/
def State.emit (e : Event) (s : State) : State := { s with trace := s.trace ++ [e] }

/-- The sequencer after a line: the line is done, and `n` micro-steps are counted (10_state.md R26). -/
def Seq.pop (n : Nat) : Seq → Seq
  | .idle => .idle
  | .run k todo => .run (k + n) todo.tail
  | .fatal => .fatal

/-- The sequencer after a micro-step that ends no line (10_state.md R26; the SPI initialisation inside `SpiXfer`,
41_bus_transport.md R152 step 1). -/
def Seq.count : Seq → Seq
  | .idle => .idle
  | .run k todo => .run (k + 1) todo
  | .fatal => .fatal

/-- The current line is done and was `n` micro-steps (10_state.md R26). -/
def State.advance (n : Nat) (s : State) : State := { s with seq := s.seq.pop n }

/-- `complete(r)` (10_state.md R27): `STATUS`, the event, the pulse on `rsp_valid`, `seq <- IDLE`. DESIGN CHOICE: `CMD` keeps
the completed word until the next acceptance; R22 says nothing of it after completion (log 26). -/
def State.complete (r : Result) (s : State) : State :=
  { s with status := r, trace := s.trace ++ [.complete s.cmd r s.rdata], rspValid := true, seq := .idle }

/-- Entry into the fatal abort (60_exceptions.md R283). The failure event is already in the trace; `STATUS`, `RDATA`
and all else keep their values (R284), nothing completes. -/
def State.fatalAbort (cause : Bus) (s : State) : State :=
  { s with trace := s.trace ++ [.fatal cause], seq := .fatal }

/-- `rst`, the only way out of `FATAL` (60_exceptions.md R288, 70_reset_and_hazards.md R310): the block's state takes
the values of 10_state.md R48; the devices and the host are not reset (R312; log 5). -/
def State.takeReset (s : State) : State :=
  { State.reset with inputs := s.inputs, script := s.script, asked := s.asked }

/-- Acceptance (10_state.md R21, R22, R26): `CMD` latches the word, `seq <- RUN(0)`. -/
def State.accept (w : Word) (plan : List Micro) (s : State) : State :=
  { s with cmd := w, trace := s.trace ++ [.accept w], rspValid := false, seq := .run 0 plan }

/-- `HostPinWrite(RST, l)` (44_fpga_reset.md R252). -/
def State.hostPinWrite (l : Bool) (s : State) : State :=
  { s with pinRst := l, trace := s.trace ++ [.pinSet l] }

/-- A free answer of the oracle (20_memory.md R64; log 3). -/
def freeAnswer (n : Nat) : Answer where
  ok := Config.freeOk n
  bytes := { b0 := Config.freeByte n 0, b1 := Config.freeByte n 1, b2 := Config.freeByte n 2, b3 := Config.freeByte n 3 }

/-- The oracle's answer to the n-th transfer of a run: the scripted one, or a free one (20_memory.md R64; log 3). -/
def answerAt (script : List Answer) (n : Nat) : Answer := (script[n]?).getD (freeAnswer n)

/-- The oracle's answer to the transfer `k` places ahead of the state (`k = 0`: the next one). -/
def State.answer (s : State) (k : Nat) : Answer := answerAt s.script (s.asked + k)

/-- The first `n` bytes of a buffer (10_state.md R41). -/
def Buf.take (n : Nat) (b : Buf) : List Byte := [b.b0, b.b1, b.b2, b.b3].take n

/-- A buffer with its first bytes overwritten, the others kept (10_state.md R41; log 11). -/
def Buf.load (l : List Byte) (b : Buf) : Buf where
  b0 := l.getD 0 b.b0
  b1 := l.getD 1 b.b1
  b2 := l.getD 2 b.b2
  b3 := l.getD 3 b.b3

/-- `MemRead(a, 1)` (41_bus_transport.md R150): fails at once while `i2c_en = 0` (R155), else by the oracle's answer.
The byte returned goes to `ret`. -/
def State.memRead (a : Byte) (s : State) : State :=
  if s.i2cEn then
    if (s.answer 0).ok then
      { s with ret := (s.answer 0).bytes.b0, asked := s.asked + 1, seq := s.seq.pop 1,
               trace := s.trace ++ [.i2cRd a (s.answer 0).bytes.b0] }
    else State.fatalAbort .i2c { s with asked := s.asked + 1, trace := s.trace ++ [.i2cFail .rd a] }
  else State.fatalAbort .i2c { s with trace := s.trace ++ [.i2cFail .rd a] }

/-- `MemWrite(a, 1, d)` (41_bus_transport.md R151), with the ghost `pmic_w` (42_pmic_rails.md R196; log 12). -/
def State.memWrite (a d : Byte) (s : State) : State :=
  if s.i2cEn then
    if (s.answer 0).ok then
      { s with pmicW := Memory.write s.pmicW a d, asked := s.asked + 1, seq := s.seq.pop 1,
               trace := s.trace ++ [.i2cWr a d] }
    else State.fatalAbort .i2c { s with pmicW := Memory.forget s.pmicW a, asked := s.asked + 1,
                                        trace := s.trace ++ [.i2cFail .wr a] }
  else State.fatalAbort .i2c { s with pmicW := Memory.forget s.pmicW a, trace := s.trace ++ [.i2cFail .wr a] }

/-- Step 1 of `SpiXfer` (41_bus_transport.md R152): the first frame after reset initialises the SPI peripheral, a
micro-step of its own. -/
def State.ensureSpi (s : State) : State :=
  if s.spiInit then s else { s with spiInit := true, seq := s.seq.count, trace := s.trace ++ [.spiInit] }

/-- Steps 2 and 3 of `SpiXfer` (41_bus_transport.md R152): one frame, `rx` as long as `tx` (20_memory.md R64, R68). What
a failed frame leaves in `rx` is the oracle's (log 11). -/
def State.spiFrame (tx : List Byte) (s : State) : State :=
  if (s.answer 0).ok then
    { s with tx := s.tx.load tx, len := tx.length, rx := s.rx.load ((s.answer 0).bytes.take tx.length),
             asked := s.asked + 1, seq := s.seq.pop 1,
             trace := s.trace ++ [.spiFrame tx ((s.answer 0).bytes.take tx.length)] }
  else State.fatalAbort .spi
    { s with tx := s.tx.load tx, len := tx.length, rx := s.rx.load ((s.answer 0).bytes.take tx.length),
             asked := s.asked + 1, trace := s.trace ++ [.spiFail tx] }

/-- `SpiXfer(tx)` (41_bus_transport.md R152). It does not depend on `i2c_en` (R159). -/
def State.spiXfer (tx : List Byte) (s : State) : State := s.ensureSpi.spiFrame tx

/-- A transfer of the sequencer: the primitive it is (41_bus_transport.md R150 to R152). -/
def State.transfer (x : Transfer) (s : State) : State :=
  match x with
  | .regWrite a d => s.memWrite a d
  | .regRead a => s.memRead a
  | .wake dc => s.spiXfer (frameBytes (.spiWake dc))
  | .resetEnable => s.spiXfer (frameBytes .spiResetEnable)
  | .resetConfirm => s.spiXfer (frameBytes .spiResetConfirm)
  | .identify dc => s.spiXfer (frameBytes (.spiIdentify dc))
  | .eraseEnable => s.spiXfer (frameBytes .spiEraseEnable)
  | .chipErase => s.spiXfer (frameBytes .spiChipErase)
  | .status dc => s.spiXfer (frameBytes (.spiStatus dc))

/-- The down-counter run to its end, one tick a clock (60_exceptions.md R293). -/
def runDown : Nat → Nat
  | 0 => 0
  | n + 1 => runDown n

/-- One line of a command, done whole. -/
def State.micro (m : Micro) (s : State) : State :=
  match m with
  | .cfgRst => { s with cfgRst := .out, trace := s.trace ++ [.pinCfgRst .out], seq := s.seq.pop 1 }
  | .cfgDone => { s with cfgDone := .inPullup, trace := s.trace ++ [.pinCfgDone .inPullup], seq := s.seq.pop 1 }
  | .i2cInit => { s with i2cEn := true, trace := s.trace ++ [.i2cInit], seq := s.seq.pop 1 }
  | .pinLow => { s with pinRst := false, trace := s.trace ++ [.pinSet false], seq := s.seq.pop 1 }
  | .xfer x => s.transfer x
  | .storeByte => { s with rdata := s.ret, seq := s.seq.pop 0 }
  | .storeBusy => { s with rdata := bitZero s.rx.b1, seq := s.seq.pop 0 }
  | .checkInterlock => if loadSwitchSet s.ret then s.complete .invalidSetting else s.advance 0
  | .checkId => if s.ret = cidExpect then s.advance 0 else s.complete .pmicError
  | .checkCapacity => if s.rx.b3 = capExpect then s.advance 0 else s.complete .flashError
  | .delay us => { s with dly := delayTicks us, trace := s.trace ++ [.delay us], seq := s.seq.pop 0 }
  | .wait => { s with dly := runDown s.dly, seq := s.seq.pop 1 }
  | .complete r => s.complete r

/-- One line of a command in one clock: as `micro`, but for the delay, which takes a clock a tick (60_exceptions.md
R293). -/
def State.microTick (m : Micro) (s : State) : State :=
  match m with
  | .wait => if s.dly = 0 then s.advance 1 else { s with dly := s.dly - 1 }
  | m => s.micro m

/-- Goes on with `f` while the command is in progress: a completion or an abort ends it (10_state.md R28,
60_exceptions.md R285). -/
def State.andThen (f : State → State) (s : State) : State := if s.busy then f s else s

/-- A command's lines, one after another, until it completes or aborts (20_memory.md R80). -/
def State.runLines : List Micro → State → State
  | [], s => s
  | m :: rest, s => (s.micro m).andThen (State.runLines rest)

/-- A command, from acceptance to completion or abort. It is accepted only while `seq = IDLE`; otherwise it has no
effect (10_state.md R21, 20_memory.md R87, 70_reset_and_hazards.md R324). -/
def State.command (i : Instr) (plan : List Micro) (s : State) : State :=
  if s.cmdReady then (s.accept (commandWord i) plan).runLines plan else s

end Sys2Proof.Machine
end

