-- ==== Sys2Proof/Machine/BusRows.lean ====
section
/-! DEFINITION. Sys2Proof/Machine/BusRows.lean: the nine bus transactions of the opcode table, each one primitive of
41_bus_transport.md (R150, R151, R152). The sequencer issues them as micro-steps of the commands; the host cannot (R160). -/

namespace Sys2Proof.Machine

/-- The I2C register write: `MemWrite` (41_bus_transport.md R151, 30_encoding.md R104). -/
def execI2cRegWrite (a d : Byte) (s : State) : Host.Outcome State Fault Refusal :=
  .next (s.transfer (.regWrite a d))

/-- The I2C register read: `MemRead` (41_bus_transport.md R150, 30_encoding.md R105). -/
def execI2cRegRead (a : Byte) (s : State) : Host.Outcome State Fault Refusal :=
  .next (s.transfer (.regRead a))

/-- The wake frame (41_bus_transport.md R152, 30_encoding.md R107). -/
def execSpiWake (dc : BitVec 24) (s : State) : Host.Outcome State Fault Refusal :=
  .next (s.transfer (.wake dc))

/-- The reset-enable frame (41_bus_transport.md R152, 30_encoding.md R107). -/
def execSpiResetEnable (s : State) : Host.Outcome State Fault Refusal :=
  .next (s.transfer .resetEnable)

/-- The reset-confirm frame (41_bus_transport.md R152, 30_encoding.md R107). -/
def execSpiResetConfirm (s : State) : Host.Outcome State Fault Refusal :=
  .next (s.transfer .resetConfirm)

/-- The identify frame (41_bus_transport.md R152, 30_encoding.md R107). -/
def execSpiIdentify (dc : BitVec 24) (s : State) : Host.Outcome State Fault Refusal :=
  .next (s.transfer (.identify dc))

/-- The erase-enable frame (41_bus_transport.md R152, 30_encoding.md R107). -/
def execSpiEraseEnable (s : State) : Host.Outcome State Fault Refusal :=
  .next (s.transfer .eraseEnable)

/-- The chip-erase frame (41_bus_transport.md R152, 30_encoding.md R107). -/
def execSpiChipErase (s : State) : Host.Outcome State Fault Refusal :=
  .next (s.transfer .chipErase)

/-- The status frame (41_bus_transport.md R152, 30_encoding.md R107). -/
def execSpiStatus (dc : Byte) (s : State) : Host.Outcome State Fault Refusal :=
  .next (s.transfer (.status dc))

end Sys2Proof.Machine
end

