-- ==== Sys2Proof/Machine/Flash.lean ====
section
/-! DEFINITION. Sys2Proof/Machine/Flash.lean: the five flash commands (43_flash.md). Don't-care bytes are sent as 0x00
(30_encoding.md R109). -/

namespace Sys2Proof.Machine

/-- The lines of `FL_WAKE` (43_flash.md R221). -/
def planFlWake : List Micro := [.xfer (.wake 0), .delay wakeUs, .wait, .complete .success]

/-- `FL_WAKE` (43_flash.md R221). -/
def execFlWake (ign : Operand) (s : State) : Host.Outcome State Fault Refusal :=
  .next (s.command (.flWake ign) planFlWake)

/-- The lines of `FL_RESET` (43_flash.md R223): two one-byte frames, then the delay. -/
def planFlReset : List Micro :=
  [.xfer .resetEnable, .xfer .resetConfirm, .delay resetUs, .wait, .complete .success]

/-- `FL_RESET` (43_flash.md R223). -/
def execFlReset (ign : Operand) (s : State) : Host.Outcome State Fault Refusal :=
  .next (s.command (.flReset ign) planFlReset)

/-- The lines of `FL_IDENT` (43_flash.md R225). -/
def planFlIdent : List Micro := [.xfer (.identify 0), .checkCapacity, .complete .success]

/-- `FL_IDENT` (43_flash.md R225). -/
def execFlIdent (ign : Operand) (s : State) : Host.Outcome State Fault Refusal :=
  .next (s.command (.flIdent ign) planFlIdent)

/-- The lines of `FL_ERASE` (43_flash.md R227): two one-byte frames, no delay. -/
def planFlErase : List Micro := [.xfer .eraseEnable, .xfer .chipErase, .complete .success]

/-- `FL_ERASE` (43_flash.md R227). -/
def execFlErase (ign : Operand) (s : State) : Host.Outcome State Fault Refusal :=
  .next (s.command (.flErase ign) planFlErase)

/-- The lines of `FL_BUSY` (43_flash.md R229). -/
def planFlBusy : List Micro := [.xfer (.status 0), .storeBusy, .complete .success]

/-- `FL_BUSY` (43_flash.md R229). -/
def execFlBusy (ign : Operand) (s : State) : Host.Outcome State Fault Refusal :=
  .next (s.command (.flBusy ign) planFlBusy)

end Sys2Proof.Machine
end

