-- ==== Sys2Proof/Machine/Fpga.lean ====
section
/-! DEFINITION. Sys2Proof/Machine/Fpga.lean: the FPGA reset assertion controller (44_fpga_reset.md). -/

namespace Sys2Proof.Machine

/-- The lines of `FPGA_HOLD` (44_fpga_reset.md R250). -/
def planFpgaHold : List Micro := [.pinLow, .complete .success]

/-- `FPGA_HOLD` (44_fpga_reset.md R250). -/
def execFpgaHold (ign : Operand) (s : State) : Host.Outcome State Fault Refusal :=
  .next (s.command (.fpgaHold ign) planFpgaHold)

end Sys2Proof.Machine
end

