-- ==== Sys2Proof/Machine/Init.lean ====
section
/-! DEFINITION. Sys2Proof/Machine/Init.lean: module initialisation (45_init.md). -/

namespace Sys2Proof.Machine

/-- The lines of `INIT` (45_init.md R260). The latch `pin[RST]` is not written. -/
def planInit : List Micro :=
  [.cfgRst, .cfgDone, .i2cInit, .xfer (.regRead regCid), .checkId, .complete .success]

/-- `INIT` (45_init.md R260). -/
def execInit (ign : Operand) (s : State) : Host.Outcome State Fault Refusal :=
  .next (s.command (.init ign) planInit)

end Sys2Proof.Machine
end

