-- ==== Sys2Proof/Machine/Rails.lean ====
section
/-! DEFINITION. Sys2Proof/Machine/Rails.lean: the three rail commands (42_pmic_rails.md R182, R185, R187). -/

namespace Sys2Proof.Machine

/-- Step 4 of `SET_VAUX` and `SET_VIO`: the target register first, then the control register, always both
(42_pmic_rails.md R193, 70_reset_and_hazards.md R335). The encoder has a code for every operand that gets here; for one
it has none (never reached, 40_voltage_encoder.md R137) nothing is written (log 25). -/
def planEnable (tgt ctl en : Byte) (code : Option Byte) : List Micro :=
  match code with
  | some k => [.xfer (.regWrite tgt k), .xfer (.regWrite ctl en), .complete .success]
  | none => [.complete .invalidSetting]

/-- The lines of `SET_VAUX mv` (42_pmic_rails.md R182): range, interlock, zero, writes, in that order
(60_exceptions.md R280). -/
def planSetVaux (mv : Operand) : List Micro :=
  if vauxRejected mv then [.complete .invalidSetting]
  else
    (if needsInterlock mv then [.xfer (.regRead regVioCtl), .checkInterlock] else []) ++
    (if mv.toNat = 0 then [.xfer (.regWrite regVauxCtl vauxDis), .complete .success]
     else planEnable regVauxTgt regVauxCtl vauxEn (encVaux mv))

/-- `SET_VAUX mv` (42_pmic_rails.md R182). -/
def execSetVaux (mv : Operand) (s : State) : Host.Outcome State Fault Refusal :=
  .next (s.command (.setVaux mv) (planSetVaux mv))

/-- The lines of `SET_VIO mv` (42_pmic_rails.md R185): no interlock step, no read. -/
def planSetVio (mv : Operand) : List Micro :=
  if vioRejected mv then [.complete .invalidSetting]
  else if mv.toNat = 0 then [.xfer (.regWrite regVioCtl vioDis), .complete .success]
  else planEnable regVioTgt regVioCtl vioEn (encVio mv)

/-- `SET_VIO mv` (42_pmic_rails.md R185). -/
def execSetVio (mv : Operand) (s : State) : Host.Outcome State Fault Refusal :=
  .next (s.command (.setVio mv) (planSetVio mv))

/-- The lines of `SET_VFPGA en` (42_pmic_rails.md R187): the target always first; when disabling, Vio off before the
core rail. -/
def planSetVfpga (en : Bool) : List Micro :=
  .xfer (.regWrite regVfpgaTgt vfpgaTgt) ::
  (if en then [.xfer (.regWrite regVfpgaCtl vfpgaEn), .complete .success]
   else [.xfer (.regWrite regVioCtl vioDis), .xfer (.regWrite regVfpgaCtl vfpgaDis), .complete .success])

/-- `SET_VFPGA en` (42_pmic_rails.md R187). -/
def execSetVfpga (ign : BitVec 15) (en : Bool) (s : State) : Host.Outcome State Fault Refusal :=
  .next (s.command (.setVfpga ign en) (planSetVfpga en))

end Sys2Proof.Machine
end

