-- ==== Sys2Proof/Machine/Reserved.lean ====
section
/-! DEFINITION. Sys2Proof/Machine/Reserved.lean: the four reserved opcodes: accepted, no effect but `STATUS`, and the
result `InvalidSetting` (30_encoding.md R117). -/

namespace Sys2Proof.Machine

/-- The one line of a reserved opcode (30_encoding.md R117). -/
def planReserved : List Micro := [.complete .invalidSetting]

/-- Opcode 0x0 (30_encoding.md R117). -/
def execReserved0 (ign : Operand) (s : State) : Host.Outcome State Fault Refusal :=
  .next (s.command (.reserved0 ign) planReserved)

/-- Opcode 0xD (30_encoding.md R117). -/
def execReservedD (ign : Operand) (s : State) : Host.Outcome State Fault Refusal :=
  .next (s.command (.reservedD ign) planReserved)

/-- Opcode 0xE (30_encoding.md R117). -/
def execReservedE (ign : Operand) (s : State) : Host.Outcome State Fault Refusal :=
  .next (s.command (.reservedE ign) planReserved)

/-- Opcode 0xF (30_encoding.md R117). -/
def execReservedF (ign : Operand) (s : State) : Host.Outcome State Fault Refusal :=
  .next (s.command (.reservedF ign) planReserved)

end Sys2Proof.Machine
end

