-- ==== Sys2Proof/Machine/Transport.lean ====
section
/-! DEFINITION. Sys2Proof/Machine/Transport.lean: the two commands that expose the I2C primitives (41_bus_transport.md
R153, R154). -/

namespace Sys2Proof.Machine

/-- The lines of `I2C_RD a` (41_bus_transport.md R153). -/
def planI2cRd (a : Byte) : List Micro := [.xfer (.regRead a), .storeByte, .complete .success]

/-- `I2C_RD a` (41_bus_transport.md R153). -/
def execI2cRd (a ign : Byte) (s : State) : Host.Outcome State Fault Refusal :=
  .next (s.command (.i2cRd a ign) (planI2cRd a))

/-- The lines of `I2C_WR a, d` (41_bus_transport.md R154). -/
def planI2cWr (a d : Byte) : List Micro := [.xfer (.regWrite a d), .complete .success]

/-- `I2C_WR a, d` (41_bus_transport.md R154). -/
def execI2cWr (a d : Byte) (s : State) : Host.Outcome State Fault Refusal :=
  .next (s.command (.i2cWr a d) (planI2cWr a d))

end Sys2Proof.Machine
end

