-- ==== Sys2Proof/Machine/Dispatch.lean ====
section
/-! DEFINITION. Sys2Proof/Machine/Dispatch.lean: each instruction's meaning. -/

namespace Sys2Proof.Machine

/-- What an instruction does to the state. -/
def exec (i : Instr) (s : State) : Host.Outcome State Fault Refusal :=
  match i with
  | .i2cRd a ign => Sys2Proof.Machine.execI2cRd a ign s
  | .i2cWr a d => Sys2Proof.Machine.execI2cWr a d s
  | .setVaux mv => Sys2Proof.Machine.execSetVaux mv s
  | .setVio mv => Sys2Proof.Machine.execSetVio mv s
  | .setVfpga ign en => Sys2Proof.Machine.execSetVfpga ign en s
  | .flWake ign => Sys2Proof.Machine.execFlWake ign s
  | .flReset ign => Sys2Proof.Machine.execFlReset ign s
  | .flIdent ign => Sys2Proof.Machine.execFlIdent ign s
  | .flErase ign => Sys2Proof.Machine.execFlErase ign s
  | .flBusy ign => Sys2Proof.Machine.execFlBusy ign s
  | .fpgaHold ign => Sys2Proof.Machine.execFpgaHold ign s
  | .init ign => Sys2Proof.Machine.execInit ign s
  | .reserved0 ign => Sys2Proof.Machine.execReserved0 ign s
  | .reservedD ign => Sys2Proof.Machine.execReservedD ign s
  | .reservedE ign => Sys2Proof.Machine.execReservedE ign s
  | .reservedF ign => Sys2Proof.Machine.execReservedF ign s
  | .i2cRegWrite a d => Sys2Proof.Machine.execI2cRegWrite a d s
  | .i2cRegRead a => Sys2Proof.Machine.execI2cRegRead a s
  | .spiWake dc => Sys2Proof.Machine.execSpiWake dc s
  | .spiResetEnable => Sys2Proof.Machine.execSpiResetEnable s
  | .spiResetConfirm => Sys2Proof.Machine.execSpiResetConfirm s
  | .spiIdentify dc => Sys2Proof.Machine.execSpiIdentify dc s
  | .spiEraseEnable => Sys2Proof.Machine.execSpiEraseEnable s
  | .spiChipErase => Sys2Proof.Machine.execSpiChipErase s
  | .spiStatus dc => Sys2Proof.Machine.execSpiStatus dc s

end Sys2Proof.Machine
end

