-- ==== Sys2Proof/Machine/Fetch.lean ====
section
/-! DEFINITION. Sys2Proof/Machine/Fetch.lean: what the machine does next: which instruction it takes, from the command
port or from the command in progress, or what it does without one. -/

namespace Sys2Proof.Machine

/-- The machine's next turn: an instruction to run in a state, or a state reached without one. -/
inductive Turn where
  | run (i : Instr) (s : State)
  | settle (s : State)
  deriving DecidableEq, Repr

/-- An idle block takes the host's next action: a command is accepted (10_state.md R21), a direct write of the latch is
done (44_fpga_reset.md R252). With none it does nothing (20_memory.md R76). -/
def State.hostTurn (s : State) : Turn :=
  match s.inputs with
  | [] => .settle s
  | .command w :: rest => .run (decodeCommand w) { s with inputs := rest }
  | .pinWrite l :: rest => .settle (State.hostPinWrite l { s with inputs := rest })

/-- A command in progress does its next line: a bus transaction is the bus row of the opcode table it is, any other line
is done by the block alone (10_state.md R26). With no line left nothing happens; no command gets there (log 2). -/
def State.runTurn (todo : List Micro) (s : State) : Turn :=
  match todo with
  | [] => .settle s
  | .xfer x :: _ => .run (transferInstr x) s
  | m :: _ => .settle (s.microTick m)

/-- The next turn. `rst` comes first (70_reset_and_hazards.md R310, R313); in `FATAL` nothing is accepted and nothing
happens (60_exceptions.md R288, 20_memory.md R87). The pulse on `rsp_valid` lasts until the next step (log 17). -/
def State.turn (s : State) : Turn :=
  if s.rst then .settle s.takeReset
  else
    match s.seq with
    | .idle => State.hostTurn { s with rspValid := false }
    | .run _ todo => State.runTurn todo { s with rspValid := false }
    | .fatal => .settle { s with rspValid := false }

/-- The state in which the next turn takes this instruction: a command is offered to an idle block before whatever else
the host will do; a bus transaction is the next line of a command in progress (log 19). -/
def State.placed (i : Instr) (s : State) : State :=
  match instrTransfer i with
  | none => { s with rst := false, seq := .idle, inputs := .command (commandWord i) :: s.inputs }
  | some x => { s with rst := false, seq := .run 0 [.xfer x, .complete .success] }

end Sys2Proof.Machine
end

