-- ==== Sys2Proof/Machine/Step.lean ====
section
/-! DEFINITION. Sys2Proof/Machine/Step.lean: one step of the machine, and the placing of an instruction where it takes
its next one. -/

namespace Sys2Proof.Machine

/-- One step: the next turn (`State.turn`), its instruction run by `exec`. -/
def step (s : State) : Host.Outcome State Fault Refusal :=
  match s.turn with
  | .run i t => exec i t
  | .settle t => .next t

/-- `s` with the instruction of these bits where `step` takes its next one; `s` itself where the decoder refuses them
(log 19, log 20). -/
def State.withFetchWord (s : State) (nbits w : Nat) : State :=
  match decodeTableWord nbits w with
  | some i => s.placed i
  | none => s

end Sys2Proof.Machine
end

