-- ==== Sys2Proof/Machine/Ghost.lean ====
section
/-! DEFINITION. Sys2Proof/Machine/Ghost.lean: the ghost state read off the trace and off `pmic_w` (10_state.md R47,
42_pmic_rails.md R196, R197). -/

namespace Sys2Proof.Machine

/-- What one event does to `pmic_w` (42_pmic_rails.md R196): nothing but `I2cWr` and `I2cFail(wr, _)` changes it. -/
def pmicAfter (m : Memory) (e : Event) : Memory :=
  match e with
  | .i2cWr a d => Memory.write m a d
  | .i2cFail .wr a => Memory.forget m a
  | .i2cFail .rd _ => m
  | .i2cInit => m
  | .spiInit => m
  | .pinCfgRst _ => m
  | .pinCfgDone _ => m
  | .pinSet _ => m
  | .i2cRd _ _ => m
  | .spiFrame _ _ => m
  | .spiFail _ => m
  | .delay _ => m
  | .accept _ => m
  | .complete _ _ _ => m
  | .fatal _ => m

/-- `pmic_w` as the trace defines it (42_pmic_rails.md R196): `none` everywhere, then one event after another. -/
def pmicOfTrace (tr : List Event) : Memory := tr.foldl pmicAfter []

/-- The three rails (42_pmic_rails.md R180). -/
inductive Rail where
  | vaux | vio | vfpga
  deriving DecidableEq, Repr

/-- The state of a rail (42_pmic_rails.md R197). -/
inductive RailState where
  | disabled
  | enabled (code : Byte)
  | unknown
  deriving DecidableEq, Repr

/-- The target register of a rail (42_pmic_rails.md R180). -/
def railTarget : Rail → Byte
  | .vaux => regVauxTgt
  | .vio => regVioTgt
  | .vfpga => regVfpgaTgt

/-- The control register of a rail (42_pmic_rails.md R180). -/
def railControl : Rail → Byte
  | .vaux => regVauxCtl
  | .vio => regVioCtl
  | .vfpga => regVfpgaCtl

/-- The enable pattern of a rail (42_pmic_rails.md R180). -/
def railEnable : Rail → Byte
  | .vaux => vauxEn
  | .vio => vioEn
  | .vfpga => vfpgaEn

/-- The disable pattern of a rail (42_pmic_rails.md R180). -/
def railDisable : Rail → Byte
  | .vaux => vauxDis
  | .vio => vioDis
  | .vfpga => vfpgaDis

/-- The state of a rail, read off `pmic_w` (42_pmic_rails.md R197). -/
def railOf (m : Memory) (r : Rail) : RailState :=
  if Memory.read m (railControl r) = some (railDisable r) then .disabled
  else if Memory.read m (railControl r) = some (railEnable r) then
    match Memory.read m (railTarget r) with
    | some k => .enabled k
    | none => .unknown
  else .unknown

/-- `rail[r]` (42_pmic_rails.md R197). -/
def State.rail (s : State) (r : Rail) : RailState := railOf s.pmicW r

/-- The nominal voltage, in volts, of a code in a rail's target register (42_pmic_rails.md R197, 40_voltage_encoder.md R133,
R134). The core rail has one, `VFPGA_VOLTS`, for its one code (R141). -/
def nominalVolts (r : Rail) (k : Byte) : Option Rat :=
  match r with
  | .vaux => some (vOffset + vauxStep * k.toNat)
  | .vio => some (vOffset + vioStep * k.toNat)
  | .vfpga => if k = vfpgaTgt then some vfpgaVolts else none

/-- The voltage a rail is enabled at, as far as the block knows (42_pmic_rails.md R197). -/
def State.railVolts (s : State) (r : Rail) : Option Rat :=
  match s.rail r with
  | .disabled => none
  | .enabled k => nominalVolts r k
  | .unknown => none

end Sys2Proof.Machine
end

