-- ==== Sys2Proof/WellFormed.lean ====
section
/-! DEFINITION. Sys2Proof/WellFormed.lean: which instruction terms stand for something the block does. -/

namespace Sys2Proof

/-- Every command word is a command or reserved (30_encoding.md R119) and every register address exists (20_memory.md
R61), so nothing is to check there. A frame of the block sends its don't-care bytes as 0x00 (30_encoding.md R109). -/
def WellFormed : Instr → Bool
  | .i2cRd _ _ => true
  | .i2cWr _ _ => true
  | .setVaux _ => true
  | .setVio _ => true
  | .setVfpga _ _ => true
  | .flWake _ => true
  | .flReset _ => true
  | .flIdent _ => true
  | .flErase _ => true
  | .flBusy _ => true
  | .fpgaHold _ => true
  | .init _ => true
  | .reserved0 _ => true
  | .reservedD _ => true
  | .reservedE _ => true
  | .reservedF _ => true
  | .i2cRegWrite _ _ => true
  | .i2cRegRead _ => true
  | .spiWake dc => dc == 0
  | .spiResetEnable => true
  | .spiResetConfirm => true
  | .spiIdentify dc => dc == 0
  | .spiEraseEnable => true
  | .spiChipErase => true
  | .spiStatus dc => dc == 0

end Sys2Proof
end

