-- ==== Sys2Proof/Safety.lean ====
section
/-! DEFINITION. Sys2Proof/Safety.lean: the terms claims are stated in: a command's lines, the two premises on the devices
(20_memory.md R65), the invariants of the state and of the trace, and the spec's tables of what a command can reach
(R66), complete with (60_exceptions.md R271) and do to the rails (42_pmic_rails.md R198). -/

namespace Sys2Proof.Safety

open Sys2Proof.Machine

/-- The lines of each command (41_bus_transport.md to 45_init.md, 30_encoding.md R117); none for a bus transaction. -/
def planOf : Instr → Option (List Micro)
  | .i2cRd a _ => some (planI2cRd a)
  | .i2cWr a d => some (planI2cWr a d)
  | .setVaux mv => some (planSetVaux mv)
  | .setVio mv => some (planSetVio mv)
  | .setVfpga _ en => some (planSetVfpga en)
  | .flWake _ => some planFlWake
  | .flReset _ => some planFlReset
  | .flIdent _ => some planFlIdent
  | .flErase _ => some planFlErase
  | .flBusy _ => some planFlBusy
  | .fpgaHold _ => some planFpgaHold
  | .init _ => some planInit
  | .reserved0 _ => some planReserved
  | .reservedD _ => some planReserved
  | .reservedE _ => some planReserved
  | .reservedF _ => some planReserved
  | .i2cRegWrite _ _ => none
  | .i2cRegRead _ => none
  | .spiWake _ => none
  | .spiResetEnable => none
  | .spiResetConfirm => none
  | .spiIdentify _ => none
  | .spiEraseEnable => none
  | .spiChipErase => none
  | .spiStatus _ => none

/-- The instruction is given on the command port: a command or a reserved opcode, no bus transaction. -/
def IsCommand (i : Instr) : Prop := instrTransfer i = none

/-- The five flash commands (43_flash.md R220). -/
def IsFlashCommand (i : Instr) : Prop :=
  (∃ g, i = .flWake g) ∨ (∃ g, i = .flReset g) ∨ (∃ g, i = .flIdent g) ∨ (∃ g, i = .flErase g) ∨ (∃ g, i = .flBusy g)

/-- The four reserved opcodes (30_encoding.md R117). -/
def IsReserved (i : Instr) : Prop :=
  (∃ g, i = .reserved0 g) ∨ (∃ g, i = .reservedD g) ∨ (∃ g, i = .reservedE g) ∨ (∃ g, i = .reservedF g)

/-! ### Premises on the devices -/

/-- Premise `PmicRegFile(m0)` of a trace (20_memory.md R65): the PMIC is a register file with content `m`, every
transfer succeeds once the I2C bus is enabled (`en`), a write sets the byte, a read returns it. -/
def PmicRegFile (m : Byte → Byte) (en : Bool) : List Event → Prop
  | [] => True
  | .i2cInit :: rest => PmicRegFile m true rest
  | .i2cWr a d :: rest => PmicRegFile (fun x => if x = a then d else m x) en rest
  | .i2cRd a d :: rest => m a = d ∧ PmicRegFile m en rest
  | .i2cFail _ _ :: rest => en = false ∧ PmicRegFile m en rest
  | _ :: rest => PmicRegFile m en rest

/-- Premise `FlashScript(s)` of a trace (20_memory.md R65): every frame succeeds and the k-th one receives the k-th
element of `s`. -/
def FlashScript : List (List Byte) → List Event → Prop
  | _, [] => True
  | s, .spiFrame _ rx :: rest => s.head? = some rx ∧ FlashScript s.tail rest
  | _, .spiFail _ :: _ => False
  | s, _ :: rest => FlashScript s rest

/-- How many frames a trace holds. -/
def frameCount : List Event → Nat
  | [] => 0
  | .spiFrame _ _ :: rest => frameCount rest + 1
  | _ :: rest => frameCount rest

/-! ### The protocol of the trace -/

/-- Where the trace stands: between commands, inside the command of a word, after a failed transfer, after an abort. -/
inductive Phase where
  | between
  | inside (w : Word)
  | failed (cause : Bus)
  | dead
  deriving DecidableEq, Repr

/-- The phase after one more event; `none` where the event may not stand there. Between commands only the host acts
(44_fpga_reset.md R252) or a command is accepted; inside one, its own events, its own completion, or a failed transfer
that is followed by `Fatal`; nothing after that (20_memory.md R80, 10_state.md R27, 60_exceptions.md R283). -/
def phaseAfter (p : Phase) (e : Event) : Option Phase :=
  match p, e with
  | .between, .pinSet _ => some .between
  | .between, .accept w => some (.inside w)
  | .inside w, .complete w' _ _ => if w' = w then some .between else none
  | .inside _, .i2cFail _ _ => some (.failed .i2c)
  | .inside _, .spiFail _ => some (.failed .spi)
  | .inside _, .accept _ => none
  | .inside _, .fatal _ => none
  | .inside _, .pinSet true => none
  | .inside w, _ => some (.inside w)
  | .failed c, .fatal c' => if c' = c then some .dead else none
  | _, _ => none

/-- The phase of a whole trace, from a start. -/
def phaseFrom : Phase → List Event → Option Phase
  | p, [] => some p
  | p, e :: rest => (phaseAfter p e).bind (fun q => phaseFrom q rest)

/-- The phase the sequencer says. -/
def phaseOf (s : State) : Phase :=
  match s.seq with
  | .idle => .between
  | .run _ _ => .inside s.cmd
  | .fatal => .dead

/-- Every command's events stand between its `Accept` and its one `Complete` or `Fatal`, nothing stands outside a
command but the host's pin writes, nothing follows `Fatal`, and the sequencer agrees. -/
def TraceProtocol (s : State) : Prop := phaseFrom .between s.trace = some (phaseOf s)

/-! ### Invariants of the state -/

/-- The ghost `pmic_w` is what the trace defines (42_pmic_rails.md R196), in canonical form. -/
def GhostPmic (s : State) : Prop := s.pmicW = pmicOfTrace s.trace ∧ Memory.wf s.pmicW = true

/-- The bring-up flags and pin modes say what has happened since reset (10_state.md R36, R37, R38). -/
def BringUpFlags (s : State) : Prop :=
  (s.i2cEn = true ↔ Event.i2cInit ∈ s.trace) ∧ (s.spiInit = true ↔ Event.spiInit ∈ s.trace) ∧
  (s.cfgRst = .out ↔ Event.pinCfgRst .out ∈ s.trace) ∧ (s.cfgDone = .inPullup ↔ Event.pinCfgDone .inPullup ∈ s.trace)

/-- The level last written to the reset latch, low at the start. -/
def lastPinSet (tr : List Event) : Bool :=
  tr.foldl (fun l e => match e with | .pinSet l' => l' | _ => l) false

/-- The latch holds the level last written (10_state.md R36), and the frame length is 1 to 4 (R41). -/
def LatchAndLength (s : State) : Prop := s.pinRst = lastPinSet s.trace ∧ 1 ≤ s.len ∧ s.len ≤ 4

/-- Every `delay` line is followed by the `wait` that runs it down. -/
def delaysAwaited : List Micro → Bool
  | [] => true
  | [.delay _] => false
  | .delay _ :: m :: rest => (m == .wait) && delaysAwaited (m :: rest)
  | _ :: rest => delaysAwaited rest

/-- The delay counter is non-zero only while the command in progress waits for it (10_state.md R44). -/
def DelayCounter (s : State) : Prop :=
  (s.dly = 0 ∨ ∃ k rest, s.seq = .run k (.wait :: rest)) ∧
  ∀ k todo, s.seq = .run k todo → delaysAwaited todo = true

/-- A transfer that is an SPI frame. -/
def isFrame : Transfer → Bool
  | .regWrite _ _ => false
  | .regRead _ => false
  | .wake _ => true
  | .resetEnable => true
  | .resetConfirm => true
  | .identify _ => true
  | .eraseEnable => true
  | .chipErase => true
  | .status _ => true

/-- How many micro-steps lines take (10_state.md R26): one for each primitive that touches a bus, a pin or time, and one
for the SPI initialisation if it is still to come (41_bus_transport.md R152). -/
def microSteps : Bool → List Micro → Nat
  | _, [] => 0
  | spi, .xfer x :: rest =>
    if isFrame x then (if spi then 1 else 2) + microSteps true rest else 1 + microSteps spi rest
  | spi, .cfgRst :: rest => 1 + microSteps spi rest
  | spi, .cfgDone :: rest => 1 + microSteps spi rest
  | spi, .i2cInit :: rest => 1 + microSteps spi rest
  | spi, .pinLow :: rest => 1 + microSteps spi rest
  | spi, .wait :: rest => 1 + microSteps spi rest
  | spi, _ :: rest => microSteps spi rest

/-- The lines still to do are the last ones of the latched command. -/
def OnPlan (s : State) : Prop :=
  ∀ k todo, s.seq = .run k todo → ∃ plan, planOf (decodeCommand s.cmd) = some plan ∧ todo <:+ plan

/-- `RUN(step)`: a command in progress has a line to do, of its own command, and `step` never passes four micro-steps
(10_state.md R26). -/
def RunBounded (s : State) : Prop :=
  OnPlan s ∧ ∀ k todo, s.seq = .run k todo → todo ≠ [] ∧ k + microSteps s.spiInit todo ≤ 4

/-- What the block must do right after an event: the delay after the wake and the reset-confirm frame, the second frame
of a pair after the first (70_reset_and_hazards.md R325, R326, R327). -/
def dueAfter : Event → Option Micro
  | .spiFrame tx _ =>
    if tx = [0xAB, 0, 0, 0] then some (.delay 3)
    else if tx = [0x66] then some (.xfer .resetConfirm)
    else if tx = [0x99] then some (.delay 30)
    else if tx = [0x06] then some (.xfer .chipErase)
    else none
  | _ => none

/-- The event is the doing of that line, or its failure. -/
def isDoing (m : Micro) (e : Event) : Prop :=
  match m with
  | .delay us => e = .delay us
  | .xfer .resetConfirm => (∃ rx, e = .spiFrame [0x99] rx) ∨ e = .spiFail [0x99]
  | .xfer .chipErase => (∃ rx, e = .spiFrame [0x60] rx) ∨ e = .spiFail [0x60]
  | _ => False

/-- What is due after an event is the next event. -/
def SpacedTrace (tr : List Event) : Prop :=
  ∀ pre e e' post m, tr = pre ++ e :: e' :: post → dueAfter e = some m → isDoing m e'

/-- The flash's two delays and two pairs are kept in the trace, and what is still due is the next line of the command in
progress. -/
def FlashSpacing (s : State) : Prop :=
  SpacedTrace s.trace ∧
  (∀ e m, s.trace.getLast? = some e → dueAfter e = some m → ∃ k rest, s.seq = .run k (m :: rest)) ∧
  (s.spiInit = false → ∀ tx rx, Event.spiFrame tx rx ∉ s.trace) ∧ OnPlan s

/-- Acceptance keeps the property: if an idle block has it, so has the block right after it accepted a command, at `RUN(0)`
with all the command's lines to do (10_state.md R26). `step` of an idle block runs the whole command (log 1), so this is where
a property of `RUN(step)` begins. -/
def KeptByAcceptance (P : State → Prop) : Prop :=
  ∀ (i : Instr) (plan : List Micro) (s : State), P s → s.seq = .idle → planOf i = some plan →
    P (s.accept (commandWord i) plan)

/-! ### The spec's tables -/

/-- The registers a command may read (20_memory.md R66). -/
def readsOf : Instr → List Byte
  | .i2cRd a _ => [a]
  | .setVaux mv => if 3460 < mv.toNat then [0x39] else []
  | .init _ => [0x14]
  | _ => []

/-- The registers a command may write (20_memory.md R66). -/
def writesOf : Instr → List Byte
  | .i2cWr a _ => [a]
  | .setVaux _ => [0x2D, 0x2E]
  | .setVio _ => [0x38, 0x39]
  | .setVfpga _ en => if en then [0x2B, 0x2C] else [0x2B, 0x2C, 0x39]
  | _ => []

/-- The frames a command may send (20_memory.md R66, 30_encoding.md R107). -/
def framesOf : Instr → List (List Byte)
  | .flWake _ => [[0xAB, 0, 0, 0]]
  | .flReset _ => [[0x66], [0x99]]
  | .flIdent _ => [[0x9F, 0, 0, 0]]
  | .flErase _ => [[0x06], [0x60]]
  | .flBusy _ => [[0x05, 0]]
  | _ => []

/-- The pin events a command may cause (20_memory.md R66). -/
def pinsOf : Instr → List Event
  | .fpgaHold _ => [.pinSet false]
  | .init _ => [.pinCfgRst .out, .pinCfgDone .inPullup]
  | _ => []

/-- The event is within the command's reach: its registers, frames and pins (20_memory.md R66). Events of no space
(acceptance, completion, abort, bus initialisation, delay) are not restricted. -/
def WithinReach (i : Instr) : Event → Prop
  | .i2cRd a _ => a ∈ readsOf i
  | .i2cFail .rd a => a ∈ readsOf i
  | .i2cWr a _ => a ∈ writesOf i
  | .i2cFail .wr a => a ∈ writesOf i
  | .spiFrame tx _ => tx ∈ framesOf i
  | .spiFail tx => tx ∈ framesOf i
  | .pinSet l => Event.pinSet l ∈ pinsOf i
  | .pinCfgRst m => Event.pinCfgRst m ∈ pinsOf i
  | .pinCfgDone m => Event.pinCfgDone m ∈ pinsOf i
  | _ => True

/-- The PMIC registers an instruction stores to, from its operands: the ones its lines write. -/
def storedRegs : Instr → List Byte
  | .i2cWr a _ => [a]
  | .i2cRegWrite a _ => [a]
  | .setVaux mv => if vauxRejected mv then [] else if mv.toNat = 0 then [regVauxCtl] else [regVauxTgt, regVauxCtl]
  | .setVio mv => if vioRejected mv then [] else if mv.toNat = 0 then [regVioCtl] else [regVioTgt, regVioCtl]
  | .setVfpga _ en => if en then [regVfpgaTgt, regVfpgaCtl] else [regVfpgaTgt, regVioCtl, regVfpgaCtl]
  | _ => []

/-- Which command can complete with which result code (60_exceptions.md R271). -/
def mayComplete (i : Instr) (r : Result) : Prop :=
  match i with
  | .setVaux _ => r = .success ∨ r = .invalidSetting
  | .setVio _ => r = .success ∨ r = .invalidSetting
  | .flIdent _ => r = .success ∨ r = .flashError
  | .init _ => r = .success ∨ r = .pmicError
  | .reserved0 _ => r = .invalidSetting
  | .reservedD _ => r = .invalidSetting
  | .reservedE _ => r = .invalidSetting
  | .reservedF _ => r = .invalidSetting
  | _ => r = .success

/-- Which bus a command can abort on (60_exceptions.md R271). -/
def abortBus : Instr → Option Bus
  | .i2cRd _ _ => some .i2c
  | .i2cWr _ _ => some .i2c
  | .setVaux _ => some .i2c
  | .setVio _ => some .i2c
  | .setVfpga _ _ => some .i2c
  | .init _ => some .i2c
  | .flWake _ => some .spi
  | .flReset _ => some .spi
  | .flIdent _ => some .spi
  | .flErase _ => some .spi
  | .flBusy _ => some .spi
  | _ => none

/-- The causes of `InvalidSetting` (60_exceptions.md R272): (a), (b), (c), (d). -/
def InvalidSettingCause (i : Instr) (s : State) : Prop :=
  (∃ mv : Operand, i = .setVaux mv ∧ mv.toNat ≠ 0 ∧ (mv.toNat < 800 ∨ 5500 < mv.toNat)) ∨
  (∃ mv : Operand, i = .setVaux mv ∧ 3460 < mv.toNat ∧ mv.toNat ≤ 5500 ∧ s.i2cEn = true ∧ (s.answer 0).ok = true ∧
    (s.answer 0).bytes.b0 &&& vioLswMask ≠ 0) ∨
  (∃ mv : Operand, i = .setVio mv ∧ mv.toNat ≠ 0 ∧ (mv.toNat < 800 ∨ 3460 < mv.toNat)) ∨
  IsReserved i

/-- The failure an I2C command meets before `INIT` (45_init.md R264): its first access; none where the command touches
no bus. -/
def firstAccessFailure : Instr → Option Event
  | .i2cRd a _ => some (.i2cFail .rd a)
  | .i2cWr a _ => some (.i2cFail .wr a)
  | .setVaux mv =>
    if vauxRejected mv then none
    else if mv.toNat = 0 then some (.i2cFail .wr 0x2E)
    else if 3460 < mv.toNat then some (.i2cFail .rd 0x39)
    else some (.i2cFail .wr 0x2D)
  | .setVio mv =>
    if vioRejected mv then none
    else if mv.toNat = 0 then some (.i2cFail .wr 0x39)
    else some (.i2cFail .wr 0x38)
  | .setVfpga _ _ => some (.i2cFail .wr 0x2B)
  | _ => none

/-- What a command on the I2C bus leaves that made these transfers, the last of them failed (60_exceptions.md R283 to R285):
the transfers stay in the trace and in `pmic_w` (42_pmic_rails.md R196), each asked for one answer (log 3), and nothing
completes. -/
def i2cCutShort (s : State) (w : Word) (transfers : List Event) : State :=
  { s with
    cmd := w, seq := .fatal, rspValid := false, asked := s.asked + transfers.length,
    pmicW := transfers.foldl pmicAfter s.pmicW, trace := s.trace ++ (.accept w :: transfers ++ [.fatal .i2c]) }

/-- What a command on the SPI bus leaves that sent these frames, the last of them failed (60_exceptions.md R283 to R285): the
events, with the SPI initialisation before them if it was still to come. `tx` is the failed frame; what `rx` holds is left open
(10_state.md R41; log 11). -/
def spiCutShort (s : State) (w : Word) (tx : List Byte) (txBuf rx : Buf) (sent : List Event) : State :=
  { s with
    cmd := w, seq := .fatal, rspValid := false, asked := s.asked + (sent.length + 1), spiInit := true,
    tx := txBuf, len := tx.length, rx := rx,
    trace := s.trace ++ (.accept w :: (if s.spiInit then [] else [.spiInit]) ++ sent ++ [.spiFail tx, .fatal .spi]) }

/-- The events `SpiXfer` starts with: the SPI initialisation, if it has not been done (41_bus_transport.md R152). -/
def spiInitEvents (s : State) : List Event := if s.spiInit then [] else [.spiInit]

/-- The six rail registers (42_pmic_rails.md R198). -/
def railRegisters : List Byte := [0x2B, 0x2C, 0x2D, 0x2E, 0x38, 0x39]

/-- What a completed command does to a rail (42_pmic_rails.md R198), but for `I2C_WR` to a rail register. -/
def railAfter (i : Instr) (res : Result) (r : Rail) (old : RailState) : RailState :=
  match i, res, r with
  | .setVaux mv, .success, .vaux => if mv.toNat = 0 then .disabled else (encVaux mv).elim .unknown .enabled
  | .setVio mv, .success, .vio => if mv.toNat = 0 then .disabled else (encVio mv).elim .unknown .enabled
  | .setVfpga _ true, .success, .vfpga => .enabled vfpgaTgt
  | .setVfpga _ false, .success, .vfpga => .disabled
  | .setVfpga _ false, .success, .vio => .disabled
  | _, _, _ => old

end Sys2Proof.Safety
end

