-- ==== Sys2Proof/Certificates/Slice0/Obligations.lean ====
section
/-! DEFINITION. Sys2Proof/Certificates/Slice0/Obligations.lean: the statements for the provers. Each docstring names the
rule of spec/ it formalises, and the decision (92_eei_decisions.md) or log entry it rests on where it rests on one. -/

open Sys2Proof Sys2Proof.Machine Sys2Proof.Safety

/-! ### Encoding -/

/-- Decoding an encoded well-formed instruction gives it back: every operand bit of every row, ignored bits too
(30_encoding.md R100 to R107, R116). The opcode numbering is the spec's decision D2. -/
def Obligations.DecodeEncodeInverse : Prop :=
  ∀ i : Instr, WellFormed i = true → decode (encode i) = .ok i

/-- What the decoder accepts is exactly what the encoder writes, on the port and on both buses; and it accepts every
command word (30_encoding.md R119, decision D2). -/
def Obligations.EncodeDecodeInverse : Prop :=
  (∀ (x : Wire) (i : Instr), decode x = .ok i → encode i = x) ∧
  (∀ w : Word, decode (.command w) = .ok (decodeCommand w) ∧ IsCommand (decodeCommand w))

/-- Words written out bit by bit from the spec's encodings (30_encoding.md R102 to R107, R120; 95_test_vectors.md)
decode to the instruction they stand for. The opcode numbering is the spec's decision D2. -/
def Obligations.WrittenOutWordsDecode : Prop :=
  decodeCommand 0b00010011100110101011 = .i2cRd 0x39 0xAB ∧
  decodeCommand 0b00100011100100001110 = .i2cWr 0x39 0x0E ∧
  decodeCommand 0b00110000110011100100 = .setVaux 3300 ∧
  decodeCommand 0b01000000101110111000 = .setVio 3000 ∧
  decodeCommand 0b01010000000000000011 = .setVfpga 1 true ∧
  decodeCommand 0b10000000000000000000 = .flIdent 0 ∧
  decodeCommand 0b10111111111111111111 = .fpgaHold 0xFFFF ∧
  decodeCommand 0b11000000000000000000 = .init 0 ∧
  decodeCommand 0b11100001001000110100 = .reservedE 0x1234 ∧
  decode (.i2c 0b1001000 [0b00101101, 0b00110010] 0) = .ok (.i2cRegWrite 0x2D 0x32) ∧
  decode (.i2c 0b1001000 [0b00010100] 1) = .ok (.i2cRegRead 0x14) ∧
  decode (.spi [0b10101011, 0, 0, 0]) = .ok (.spiWake 0) ∧
  decode (.spi [0b00000101, 0]) = .ok (.spiStatus 0)

/-- 41_bus_transport.md R158: every I2C transaction of the block goes to device 0x48, and one to another device is no
instruction of it. -/
def Obligations.OnlyPmicAddressed : Prop :=
  (∀ (i : Instr) dev sent n, encode i = .i2c dev sent n → dev = 0x48) ∧
  (∀ dev sent n, dev ≠ 0x48 → decode (.i2c dev sent n) = .error (.otherDevice dev))

/-- 30_encoding.md R108: the flash opcodes sent are exactly seven, and a frame with another opcode is no frame of the
block. -/
def Obligations.FlashOpcodesClosed : Prop :=
  (∀ op : Byte, (∃ i rest, encode i = .spi (op :: rest)) ↔ op ∈ ([0xAB, 0x66, 0x99, 0x9F, 0x06, 0x60, 0x05] : List Byte)) ∧
  (∀ (op : Byte) rest, op ∉ ([0xAB, 0x66, 0x99, 0x9F, 0x06, 0x60, 0x05] : List Byte) →
    decode (.spi (op :: rest)) = .error .notABlockFrame)

/-! ### The voltage encoder -/

/-- 40_voltage_encoder.md R132: on every millivolt operand the integer formulas give what R131 gives over the rationals.
Exact arithmetic is the spec's decision D3, the rounding of a tie D4 (log 15). -/
def Obligations.EncoderAgreesWithVolts : Prop :=
  ∀ mv : Operand,
    encVauxVolts (volts mv) = (encVaux mv).map (fun b => (b.toNat : Int)) ∧
    encVioVolts (volts mv) = (encVio mv).map (fun b => (b.toNat : Int))

/-- 40_voltage_encoder.md R135: on its range each encoder is non-decreasing and encodes 0.8 V as 0. -/
def Obligations.EncoderMonotone : Prop :=
  (∀ v w : Rat, 4 / 5 ≤ v → v ≤ w → w ≤ 11 / 2 →
    ∃ a b, encVauxVolts v = some a ∧ encVauxVolts w = some b ∧ a ≤ b) ∧
  (∀ v w : Rat, 4 / 5 ≤ v → v ≤ w → w ≤ 173 / 50 →
    ∃ a b, encVioVolts v = some a ∧ encVioVolts w = some b ∧ a ≤ b) ∧
  encVauxVolts (4 / 5) = some 0 ∧ encVioVolts (4 / 5) = some 0

/-- 40_voltage_encoder.md R133, R134: which operands get code `k`, that no other operand has a code (R137), and how far
the nominal voltage of the code is from the one asked for. Ties go up by the spec's decision D4 (log 15). -/
def Obligations.EncoderCodeIntervals : Prop :=
  (∀ (mv : Operand) (k : Byte), encVaux mv = some k ↔
    800 ≤ mv.toNat ∧ mv.toNat ≤ 5500 ∧ 775 + 50 * k.toNat ≤ mv.toNat ∧ mv.toNat ≤ 824 + 50 * k.toNat) ∧
  (∀ (mv : Operand) (k : Byte), encVio mv = some k ↔
    800 ≤ mv.toNat ∧ mv.toNat ≤ 3460 ∧ 788 + 25 * k.toNat ≤ mv.toNat ∧ mv.toNat ≤ 812 + 25 * k.toNat) ∧
  (∀ (mv : Operand) (k : Byte), encVaux mv = some k → k.toNat ≤ 94) ∧
  (∀ (mv : Operand) (k : Byte), encVio mv = some k → k.toNat ≤ 106) ∧
  (∀ (mv : Operand) (k : Byte), encVaux mv = some k →
    ∃ v, nominalVolts .vaux k = some v ∧ |v - volts mv| ≤ 1 / 40) ∧
  (∀ (mv : Operand) (k : Byte), encVio mv = some k →
    ∃ v, nominalVolts .vio k = some v ∧ |v - volts mv| ≤ 1 / 80)

/-! ### Memory -/

/-- 42_pmic_rails.md R196: after a write the address holds the byte, after a failed write nothing, and every other
address reads as before. -/
def Obligations.MemoryReadAfterWrite : Prop :=
  ∀ (m : Memory) (a b d : Byte),
    Memory.read (Memory.write m a d) b = (if b = a then some d else Memory.read m b) ∧
    Memory.read (Memory.forget m a) b = (if b = a then none else Memory.read m b)

/-! ### The step -/

/-- A step runs the decoded instruction: an idle block takes the command the host offers, and the step is its meaning on
the state without the offer and without the old `rsp_valid` pulse (10_state.md R21). -/
def Obligations.StepRunsOfferedCommand : Prop :=
  ∀ (s : State) (w : Word) (rest : List HostAct), s.rst = false → s.seq = .idle → s.inputs = .command w :: rest →
    step s = exec (decodeCommand w) { s with inputs := rest, rspValid := false }

/-- A step of a command in progress whose next line is a bus transaction runs that transaction's row of the opcode table
(00_scope.md R12, 10_state.md R26). -/
def Obligations.StepRunsTransaction : Prop :=
  ∀ (s : State) (k : Nat) (x : Transfer) (rest : List Micro), s.rst = false → s.seq = .run k (.xfer x :: rest) →
    step s = exec (transferInstr x) { s with rspValid := false }

/-- The host's direct write of the latch (44_fpga_reset.md R252, decision D20), and an idle block with nothing offered
does nothing (20_memory.md R76). -/
def Obligations.StepOfIdleBlock : Prop :=
  (∀ (s : State) (l : Bool) (rest : List HostAct), s.rst = false → s.seq = .idle → s.inputs = .pinWrite l :: rest →
    step s = .next { s with inputs := rest, rspValid := false, pinRst := l, trace := s.trace ++ [.pinSet l] }) ∧
  (∀ s : State, s.rst = false → s.seq = .idle → s.inputs = [] → step s = .next { s with rspValid := false })

/-- 60_exceptions.md R288, 70_reset_and_hazards.md R310 (decisions D6, D14): in `FATAL` nothing is accepted and nothing
happens; `rst`, in whatever state, gives the state of 10_state.md R48 (the values R48 leaves open are the model's, log 6,
log 7), with the environment as it was (log 5). -/
def Obligations.OnlyResetLeavesFatal : Prop :=
  (∀ s : State, s.rst = false → s.seq = .fatal → step s = .next { s with rspValid := false }) ∧
  (∀ s : State, s.rst = true →
    step s = .next { State.reset with inputs := s.inputs, script := s.script, asked := s.asked })

/-- Every step answers a next state: the machine never stops (the fatal abort is a state, 60_exceptions.md R286). -/
def Obligations.StepAlwaysNext : Prop :=
  ∀ s : State, ∃ t : State, step s = .next t

/-- 20_memory.md R87, 70_reset_and_hazards.md R324 (decision D19): a command offered while the block is busy or fatal has
no effect. -/
def Obligations.CommandNeedsIdle : Prop :=
  ∀ (i : Instr) (s : State), IsCommand i → s.seq ≠ .idle → exec i s = .next s

/-- 10_state.md R26 (decision D1): a command's meaning is its micro-steps: from the state right after acceptance, some
number of steps of the machine reach exactly the state that `exec` answers. -/
def Obligations.CommandIsItsMicroSteps : Prop :=
  ∀ (i : Instr) (plan : List Micro) (s : State), planOf i = some plan → s.rst = false → s.seq = .idle →
    ∃ n, Host.Core.run Sys2Proof.core n (s.accept (commandWord i) plan) = exec i s

/-! ### Reset and invariants -/

/-- The values 10_state.md R48 gives (decisions D14, D15). -/
def Obligations.ResetValues : Prop :=
  State.reset.seq = .idle ∧ State.reset.busy = false ∧ State.reset.fatal = false ∧ State.reset.cmdReady = true ∧
  State.reset.status = .success ∧ State.reset.rspStatus = 0 ∧ State.reset.i2cEn = false ∧ State.reset.spiInit = false ∧
  State.reset.cfgRst = .hiz ∧ State.reset.pinRst = false ∧ State.reset.cfgDone = .hiz ∧ State.reset.dly = 0 ∧
  State.reset.fpgaRstN = none ∧ State.reset.trace = [] ∧ (∀ a, Memory.read State.reset.pmicW a = none) ∧
  (∀ r, State.reset.rail r = .unknown)

/-- Every invariant below holds of the state after reset. -/
def Obligations.InvariantsAtReset : Prop :=
  GhostPmic State.reset ∧ TraceProtocol State.reset ∧ BringUpFlags State.reset ∧ LatchAndLength State.reset ∧
  DelayCounter State.reset ∧ RunBounded State.reset ∧ FlashSpacing State.reset

/-- 42_pmic_rails.md R196: `pmic_w` is what the trace defines, in canonical form, and every step keeps it so, and the
acceptance of a command does. -/
def Obligations.GhostPmicKept : Prop :=
  (∀ s t : State, GhostPmic s → step s = .next t → GhostPmic t) ∧ KeptByAcceptance GhostPmic

/-- 20_memory.md R80, 10_state.md R27, 60_exceptions.md R279, R283: every step keeps the protocol of the trace: a
command's events stand between its `Accept` and its one `Complete` or `Fatal`, and nothing follows `Fatal`; and acceptance
keeps it. That the host's pin writes stand only between commands, none inside one and none after `Fatal`, is R252 (decision
D20) and the model's choice of log 13, which is unsafe for exactly that clause. -/
def Obligations.TraceProtocolKept : Prop :=
  (∀ s t : State, TraceProtocol s → step s = .next t → TraceProtocol t) ∧ KeptByAcceptance TraceProtocol

/-- 10_state.md R36, R37, R38: every step keeps the bring-up flags and pin modes in agreement with the trace, and the
acceptance of a command does. -/
def Obligations.BringUpFlagsKept : Prop :=
  (∀ s t : State, BringUpFlags s → step s = .next t → BringUpFlags t) ∧ KeptByAcceptance BringUpFlags

/-- 10_state.md R36, R41: every step keeps the latch at the level last written and the frame length in 1..4, and the
acceptance of a command does. -/
def Obligations.LatchAndLengthKept : Prop :=
  (∀ s t : State, LatchAndLength s → step s = .next t → LatchAndLength t) ∧ KeptByAcceptance LatchAndLength

/-- 10_state.md R44: every step keeps the delay counter at zero but while the command in progress waits for it, and the
acceptance of a command does. 60_exceptions.md R292, R293 (decision D17): a delay of `us` microseconds loads the least count of
ticks that lasts at least so long, and its wait counts down one tick a step and ends only at zero (log 10). -/
def Obligations.DelayCounterKept : Prop :=
  (∀ s t : State, DelayCounter s → step s = .next t → DelayCounter t) ∧ KeptByAcceptance DelayCounter ∧
  (∀ (s : State) (k us : Nat) (rest : List Micro), s.rst = false → s.seq = .run k (.delay us :: rest) →
    ∃ t, step s = .next t ∧ t.seq = .run k rest ∧ us * clkHz ≤ t.dly * 1000000 ∧
      t.dly * 1000000 < us * clkHz + 1000000) ∧
  (∀ (s : State) (k : Nat) (rest : List Micro), s.rst = false → s.seq = .run k (.wait :: rest) →
    step s = .next (if s.dly = 0 then { s with rspValid := false, seq := .run (k + 1) rest }
      else { s with rspValid := false, dly := s.dly - 1 }))

/-- 10_state.md R26: every step keeps `RUN(step)` on the lines of its command and `step` within four micro-steps; and from
the state right after acceptance no command takes more than four. -/
def Obligations.RunBoundedKept : Prop :=
  (∀ s t : State, RunBounded s → step s = .next t → RunBounded t) ∧ KeptByAcceptance RunBounded

/-- 70_reset_and_hazards.md R325, R326, R327: every step keeps the two delays right after their frames and the two pairs
of frames together, and the acceptance of a command does. -/
def Obligations.FlashSpacingKept : Prop :=
  (∀ s t : State, FlashSpacing s → step s = .next t → FlashSpacing t) ∧ KeptByAcceptance FlashSpacing

/-- 20_memory.md R80: but for `rst`, a step only adds to the trace. -/
def Obligations.HistoryKept : Prop :=
  ∀ s t : State, s.rst = false → step s = .next t → s.trace <+: t.trace

/-! ### What a command reaches and leaves -/

/-- 20_memory.md R66: every event a command adds to the trace is within the spaces its row of the table gives it. The
frames are whole: their lengths are 30_encoding.md R107 (decision D9), their filler bytes 0x00 are R109 (decision D10, log 16);
that a reserved opcode reaches nothing is R117 (decision D12). -/
def Obligations.CommandReach : Prop :=
  ∀ (i : Instr) (s t : State), IsCommand i → exec i s = .next t →
    ∃ evs, t.trace = s.trace ++ evs ∧ ∀ e ∈ evs, WithinReach i e

/-- What a command leaves unchanged (10_state.md R24, R31, R36 to R38, R41; 45_init.md R263): the environment; the I2C
flag and the pin modes but for `INIT`; the reset latch but for `FPGA_HOLD`, so for `INIT` too, which is decision D15 (log 14);
`RDATA` but for `I2C_RD` and `FL_BUSY` (decision D16); the SPI flag, the frame buffers and the delay counter but for the flash
commands. -/
def Obligations.CommandFrame : Prop :=
  ∀ (i : Instr) (s t : State), IsCommand i → exec i s = .next t →
    (t.inputs = s.inputs ∧ t.script = s.script ∧ t.rst = s.rst) ∧
    ((∀ g, i ≠ .init g) → t.i2cEn = s.i2cEn ∧ t.cfgRst = s.cfgRst ∧ t.cfgDone = s.cfgDone) ∧
    ((∀ g, i ≠ .fpgaHold g) → t.pinRst = s.pinRst) ∧
    ((∀ a g, i ≠ .i2cRd a g) → (∀ g, i ≠ .flBusy g) → t.rdata = s.rdata) ∧
    (¬ IsFlashCommand i →
      t.spiInit = s.spiInit ∧ t.tx = s.tx ∧ t.rx = s.rx ∧ t.len = s.len ∧ t.dly = s.dly)

/-- 20_memory.md R70 to R72: no instruction changes what is known of a PMIC register it does not store to; the stored
registers are computed from the operands, and are none for a form that stores nothing. -/
def Obligations.MemoryFrame : Prop :=
  ∀ (i : Instr) (s t : State) (a : Byte), exec i s = .next t → a ∉ storedRegs i →
    Memory.read t.pmicW a = Memory.read s.pmicW a

/-! ### Results: the I2C commands -/

/-- 41_bus_transport.md R153 (decisions D2, D16): `I2C_RD a` with the bus enabled and the transfer answered ok. Nothing
else changes. `ret`, `asked` are the model's own (log 3). `CMD` after completion is log 26. -/
def Obligations.I2cRdResult : Prop :=
  ∀ (a ign : Byte) (s : State), s.seq = .idle → s.i2cEn = true → (s.answer 0).ok = true →
    exec (.i2cRd a ign) s = .next { s with
      cmd := commandOf 0x1 (a ++ ign), rdata := (s.answer 0).bytes.b0, status := .success, seq := .idle,
      rspValid := true, ret := (s.answer 0).bytes.b0, asked := s.asked + 1,
      trace := s.trace ++ [.accept (commandOf 0x1 (a ++ ign)), .i2cRd a (s.answer 0).bytes.b0,
        .complete (commandOf 0x1 (a ++ ign)) .success (s.answer 0).bytes.b0] }

/-- 41_bus_transport.md R154 (decisions D2, D16): `I2C_WR a, d` with the bus enabled and the transfer answered ok.
`CMD` after completion is log 26. -/
def Obligations.I2cWrResult : Prop :=
  ∀ (a d : Byte) (s : State), s.seq = .idle → s.i2cEn = true → (s.answer 0).ok = true →
    exec (.i2cWr a d) s = .next { s with
      cmd := commandOf 0x2 (a ++ d), status := .success, seq := .idle, rspValid := true,
      pmicW := Memory.write s.pmicW a d, asked := s.asked + 1,
      trace := s.trace ++ [.accept (commandOf 0x2 (a ++ d)), .i2cWr a d,
        .complete (commandOf 0x2 (a ++ d)) .success s.rdata] }

/-! ### Results: the rails -/

/-- 42_pmic_rails.md R182, R184 (decision D7): `SET_VAUX` with 0 writes exactly the disable pattern; with 800 to 3460 the
target, then the control register, and reads nothing. `CMD` after completion is log 26. -/
def Obligations.SetVauxWithoutInterlock : Prop :=
  (∀ s : State, s.seq = .idle → s.i2cEn = true → (s.answer 0).ok = true →
    exec (.setVaux 0) s = .next { s with
      cmd := 0x30000, status := .success, seq := .idle, rspValid := true, pmicW := Memory.write s.pmicW 0x2E vauxDis,
      asked := s.asked + 1,
      trace := s.trace ++ [.accept 0x30000, .i2cWr 0x2E vauxDis, .complete 0x30000 .success s.rdata] }) ∧
  (∀ (mv : Operand) (s : State), 800 ≤ mv.toNat → mv.toNat ≤ 3460 →
    s.seq = .idle → s.i2cEn = true → (s.answer 0).ok = true → (s.answer 1).ok = true →
    exec (.setVaux mv) s = .next { s with
      cmd := commandOf 0x3 mv, status := .success, seq := .idle, rspValid := true,
      pmicW := Memory.write (Memory.write s.pmicW 0x2D (BitVec.ofNat 8 ((mv.toNat - 775) / 50))) 0x2E vauxEn,
      asked := s.asked + 2,
      trace := s.trace ++ [.accept (commandOf 0x3 mv), .i2cWr 0x2D (BitVec.ofNat 8 ((mv.toNat - 775) / 50)),
        .i2cWr 0x2E vauxEn, .complete (commandOf 0x3 mv) .success s.rdata] })

/-- 42_pmic_rails.md R182, R184, R190 (decision D7): `SET_VAUX` with 3461 to 5500 reads 0x39 first; with the load-switch
bit clear in the byte read it writes the target, then the control register; with the bit set it completes with
`InvalidSetting` and writes nothing. `CMD` after completion is log 26. -/
def Obligations.SetVauxInterlock : Prop :=
  (∀ (mv : Operand) (s : State), 3461 ≤ mv.toNat → mv.toNat ≤ 5500 →
    s.seq = .idle → s.i2cEn = true → (s.answer 0).ok = true → (s.answer 0).bytes.b0 &&& vioLswMask = 0 →
    (s.answer 1).ok = true → (s.answer 2).ok = true →
    exec (.setVaux mv) s = .next { s with
      cmd := commandOf 0x3 mv, status := .success, seq := .idle, rspValid := true, ret := (s.answer 0).bytes.b0,
      pmicW := Memory.write (Memory.write s.pmicW 0x2D (BitVec.ofNat 8 ((mv.toNat - 775) / 50))) 0x2E vauxEn,
      asked := s.asked + 3,
      trace := s.trace ++ [.accept (commandOf 0x3 mv), .i2cRd 0x39 (s.answer 0).bytes.b0,
        .i2cWr 0x2D (BitVec.ofNat 8 ((mv.toNat - 775) / 50)), .i2cWr 0x2E vauxEn,
        .complete (commandOf 0x3 mv) .success s.rdata] }) ∧
  (∀ (mv : Operand) (s : State), 3461 ≤ mv.toNat → mv.toNat ≤ 5500 →
    s.seq = .idle → s.i2cEn = true → (s.answer 0).ok = true → (s.answer 0).bytes.b0 &&& vioLswMask ≠ 0 →
    exec (.setVaux mv) s = .next { s with
      cmd := commandOf 0x3 mv, status := .invalidSetting, seq := .idle, rspValid := true,
      ret := (s.answer 0).bytes.b0, asked := s.asked + 1,
      trace := s.trace ++ [.accept (commandOf 0x3 mv), .i2cRd 0x39 (s.answer 0).bytes.b0,
        .complete (commandOf 0x3 mv) .invalidSetting s.rdata] })

/-- 42_pmic_rails.md R185, R186 (decision D8 for 0): `SET_VIO` with 0 writes exactly the disable pattern; with 800 to 3460
the target, then 0x0E to the control register. `CMD` after completion is log 26. -/
def Obligations.SetVioResult : Prop :=
  (∀ s : State, s.seq = .idle → s.i2cEn = true → (s.answer 0).ok = true →
    exec (.setVio 0) s = .next { s with
      cmd := 0x40000, status := .success, seq := .idle, rspValid := true, pmicW := Memory.write s.pmicW 0x39 vioDis,
      asked := s.asked + 1,
      trace := s.trace ++ [.accept 0x40000, .i2cWr 0x39 vioDis, .complete 0x40000 .success s.rdata] }) ∧
  (∀ (mv : Operand) (s : State), 800 ≤ mv.toNat → mv.toNat ≤ 3460 →
    s.seq = .idle → s.i2cEn = true → (s.answer 0).ok = true → (s.answer 1).ok = true →
    exec (.setVio mv) s = .next { s with
      cmd := commandOf 0x4 mv, status := .success, seq := .idle, rspValid := true,
      pmicW := Memory.write (Memory.write s.pmicW 0x38 (BitVec.ofNat 8 ((2 * mv.toNat - 1575) / 50))) 0x39 0x0E,
      asked := s.asked + 2,
      trace := s.trace ++ [.accept (commandOf 0x4 mv), .i2cWr 0x38 (BitVec.ofNat 8 ((2 * mv.toNat - 1575) / 50)),
        .i2cWr 0x39 0x0E, .complete (commandOf 0x4 mv) .success s.rdata] })

/-- 42_pmic_rails.md R184, R186 (decision D3 for the operand's unit): an operand that is not 0 and not in the rail's range
completes with `InvalidSetting` and touches no bus, whatever the bus's state. `CMD` after completion is log 26. -/
def Obligations.RangeRejects : Prop :=
  (∀ (mv : Operand) (s : State), mv.toNat ≠ 0 → mv.toNat ≤ 799 ∨ 5501 ≤ mv.toNat → s.seq = .idle →
    exec (.setVaux mv) s = .next { s with
      cmd := commandOf 0x3 mv, status := .invalidSetting, seq := .idle, rspValid := true,
      trace := s.trace ++ [.accept (commandOf 0x3 mv), .complete (commandOf 0x3 mv) .invalidSetting s.rdata] }) ∧
  (∀ (mv : Operand) (s : State), mv.toNat ≠ 0 → mv.toNat ≤ 799 ∨ 3461 ≤ mv.toNat → s.seq = .idle →
    exec (.setVio mv) s = .next { s with
      cmd := commandOf 0x4 mv, status := .invalidSetting, seq := .idle, rspValid := true,
      trace := s.trace ++ [.accept (commandOf 0x4 mv), .complete (commandOf 0x4 mv) .invalidSetting s.rdata] })

/-- 42_pmic_rails.md R188: `SET_VFPGA 1` writes the target and the enable pattern; `SET_VFPGA 0` the target, Vio's disable
pattern, then the core rail's. `CMD` after completion is log 26. -/
def Obligations.SetVfpgaResult : Prop :=
  (∀ (ign : BitVec 15) (s : State), s.seq = .idle → s.i2cEn = true → (s.answer 0).ok = true → (s.answer 1).ok = true →
    exec (.setVfpga ign true) s = .next { s with
      cmd := commandOf 0x5 (ign ++ 1#1), status := .success, seq := .idle, rspValid := true,
      pmicW := Memory.write (Memory.write s.pmicW 0x2B vfpgaTgt) 0x2C vfpgaEn, asked := s.asked + 2,
      trace := s.trace ++ [.accept (commandOf 0x5 (ign ++ 1#1)), .i2cWr 0x2B vfpgaTgt, .i2cWr 0x2C vfpgaEn,
        .complete (commandOf 0x5 (ign ++ 1#1)) .success s.rdata] }) ∧
  (∀ (ign : BitVec 15) (s : State), s.seq = .idle → s.i2cEn = true → (s.answer 0).ok = true → (s.answer 1).ok = true →
    (s.answer 2).ok = true →
    exec (.setVfpga ign false) s = .next { s with
      cmd := commandOf 0x5 (ign ++ 0#1), status := .success, seq := .idle, rspValid := true,
      pmicW := Memory.write (Memory.write (Memory.write s.pmicW 0x2B vfpgaTgt) 0x39 vioDis) 0x2C vfpgaDis,
      asked := s.asked + 3,
      trace := s.trace ++ [.accept (commandOf 0x5 (ign ++ 0#1)), .i2cWr 0x2B vfpgaTgt, .i2cWr 0x39 vioDis,
        .i2cWr 0x2C vfpgaDis, .complete (commandOf 0x5 (ign ++ 0#1)) .success s.rdata] })

/-- 42_pmic_rails.md R187, R194, 70_reset_and_hazards.md R330: in what `SET_VFPGA 0` adds to the trace, aborted or not, a
write of the core rail's control register stands only after a write of Vio's disable pattern. -/
def Obligations.VioOffBeforeVfpgaOff : Prop :=
  ∀ (ign : BitVec 15) (s t : State) (pre post : List Event) (d : Byte), exec (.setVfpga ign false) s = .next t →
    t.trace = s.trace ++ (pre ++ .i2cWr 0x2C d :: post) → Event.i2cWr 0x39 vioDis ∈ pre

/-- 42_pmic_rails.md R198, R199 (decision D24): what each completed command does to each rail, but for a raw write to a
rail register; so the core rail becomes `Disabled` only together with Vio. 00_scope.md R7, 42_pmic_rails.md R197: a completed
`SET_VFPGA 1` leaves the core rail enabled at 1.2 V, which is what the open code P6 stands for (log 8). -/
def Obligations.RailTransitions : Prop :=
  (∀ (i : Instr) (s t : State) (r : Rail), IsCommand i → (∀ a d, i = .i2cWr a d → a ∉ railRegisters) →
    s.seq = .idle → exec i s = .next t → t.seq = .idle →
    t.rail r = railAfter i t.status r (s.rail r)) ∧
  (∀ (ign : BitVec 15) (s t : State), s.seq = .idle → exec (.setVfpga ign true) s = .next t → t.seq = .idle →
    t.railVolts .vfpga = some (6 / 5))

/-! ### Results: the flash -/

/-- 43_flash.md R221 (decisions D10, D16): `FL_WAKE` with the frame answered ok; the first frame since reset also
initialises SPI. What the buffers hold is scratch (log 11). `CMD` after completion is log 26. -/
def Obligations.FlWakeResult : Prop :=
  ∀ (ign : Operand) (s : State), s.seq = .idle → (s.answer 0).ok = true →
    exec (.flWake ign) s = .next { s with
      cmd := commandOf 0x6 ign, status := .success, seq := .idle, rspValid := true, spiInit := true,
      tx := ⟨0xAB, 0, 0, 0⟩, rx := (s.answer 0).bytes, len := 4, dly := 0, asked := s.asked + 1,
      trace := s.trace ++ (.accept (commandOf 0x6 ign) :: spiInitEvents s ++
        [.spiFrame [0xAB, 0, 0, 0] ((s.answer 0).bytes.take 4), .delay 3,
         .complete (commandOf 0x6 ign) .success s.rdata]) }

/-- 43_flash.md R223 (decisions D16, D25): `FL_RESET` with both frames answered ok: two one-byte frames, then the
delay. `CMD` after completion is log 26. -/
def Obligations.FlResetResult : Prop :=
  ∀ (ign : Operand) (s : State), s.seq = .idle → (s.answer 0).ok = true → (s.answer 1).ok = true →
    exec (.flReset ign) s = .next { s with
      cmd := commandOf 0x7 ign, status := .success, seq := .idle, rspValid := true, spiInit := true,
      tx := { s.tx with b0 := 0x99 }, rx := { s.rx with b0 := (s.answer 1).bytes.b0 }, len := 1, dly := 0,
      asked := s.asked + 2,
      trace := s.trace ++ (.accept (commandOf 0x7 ign) :: spiInitEvents s ++
        [.spiFrame [0x66] [(s.answer 0).bytes.b0], .spiFrame [0x99] [(s.answer 1).bytes.b0], .delay 30,
         .complete (commandOf 0x7 ign) .success s.rdata]) }

/-- 43_flash.md R225 (decisions D9, D10): `FL_IDENT` with the frame answered ok: `Success` exactly when the fourth byte
received is 0x16, else `FlashError`. `CMD` after completion is log 26. -/
def Obligations.FlIdentResult : Prop :=
  ∀ (ign : Operand) (s : State), s.seq = .idle → (s.answer 0).ok = true →
    exec (.flIdent ign) s = .next { s with
      cmd := commandOf 0x8 ign, status := if (s.answer 0).bytes.b3 = 0x16 then .success else .flashError,
      seq := .idle, rspValid := true, spiInit := true, tx := ⟨0x9F, 0, 0, 0⟩, rx := (s.answer 0).bytes, len := 4,
      asked := s.asked + 1,
      trace := s.trace ++ (.accept (commandOf 0x8 ign) :: spiInitEvents s ++
        [.spiFrame [0x9F, 0, 0, 0] ((s.answer 0).bytes.take 4),
         .complete (commandOf 0x8 ign) (if (s.answer 0).bytes.b3 = 0x16 then .success else .flashError) s.rdata]) }

/-- 43_flash.md R227 (decisions D16, D25): `FL_ERASE` with both frames answered ok: two one-byte frames, no delay.
`CMD` after completion is log 26. -/
def Obligations.FlEraseResult : Prop :=
  ∀ (ign : Operand) (s : State), s.seq = .idle → (s.answer 0).ok = true → (s.answer 1).ok = true →
    exec (.flErase ign) s = .next { s with
      cmd := commandOf 0x9 ign, status := .success, seq := .idle, rspValid := true, spiInit := true,
      tx := { s.tx with b0 := 0x60 }, rx := { s.rx with b0 := (s.answer 1).bytes.b0 }, len := 1,
      asked := s.asked + 2,
      trace := s.trace ++ (.accept (commandOf 0x9 ign) :: spiInitEvents s ++
        [.spiFrame [0x06] [(s.answer 0).bytes.b0], .spiFrame [0x60] [(s.answer 1).bytes.b0],
         .complete (commandOf 0x9 ign) .success s.rdata]) }

/-- 43_flash.md R229 (decisions D9, D16): `FL_BUSY` with the frame answered ok: `RDATA` is bit 0 of the second byte
received, zero-extended, and the result is `Success`. `CMD` after completion is log 26. -/
def Obligations.FlBusyResult : Prop :=
  ∀ (ign : Operand) (s : State), s.seq = .idle → (s.answer 0).ok = true →
    exec (.flBusy ign) s = .next { s with
      cmd := commandOf 0xA ign, status := .success, rdata := (s.answer 0).bytes.b1 &&& 1, seq := .idle,
      rspValid := true, spiInit := true, tx := { s.tx with b0 := 0x05, b1 := 0 },
      rx := { s.rx with b0 := (s.answer 0).bytes.b0, b1 := (s.answer 0).bytes.b1 }, len := 2,
      asked := s.asked + 1,
      trace := s.trace ++ (.accept (commandOf 0xA ign) :: spiInitEvents s ++
        [.spiFrame [0x05, 0] [(s.answer 0).bytes.b0, (s.answer 0).bytes.b1],
         .complete (commandOf 0xA ign) .success ((s.answer 0).bytes.b1 &&& 1)]) }

/-! ### Results: the pins, bring-up, the reserved opcodes -/

/-- 44_fpga_reset.md R250 (decision D16): `FPGA_HOLD` clears the latch and completes, whatever the pin's mode and
level. `CMD` after completion is log 26. -/
def Obligations.FpgaHoldResult : Prop :=
  ∀ (ign : Operand) (s : State), s.seq = .idle →
    exec (.fpgaHold ign) s = .next { s with
      cmd := commandOf 0xB ign, status := .success, seq := .idle, rspValid := true, pinRst := false,
      trace := s.trace ++ [.accept (commandOf 0xB ign), .pinSet false, .complete (commandOf 0xB ign) .success s.rdata] }

/-- 45_init.md R260, R262, R263 (decisions D15, D21; log 14): `INIT` with the read answered ok, first or repeated: the
pins and the bus are set up, the latch is not written, and the result is `Success` exactly when the byte is 0x7A, else
`PmicError`. `CMD` after completion is log 26. -/
def Obligations.InitResult : Prop :=
  ∀ (ign : Operand) (s : State), s.seq = .idle → (s.answer 0).ok = true →
    exec (.init ign) s = .next { s with
      cmd := commandOf 0xC ign, status := if (s.answer 0).bytes.b0 = 0x7A then .success else .pmicError,
      seq := .idle, rspValid := true, cfgRst := .out, cfgDone := .inPullup, i2cEn := true,
      ret := (s.answer 0).bytes.b0, asked := s.asked + 1,
      trace := s.trace ++ [.accept (commandOf 0xC ign), .pinCfgRst .out, .pinCfgDone .inPullup, .i2cInit,
        .i2cRd 0x14 (s.answer 0).bytes.b0,
        .complete (commandOf 0xC ign) (if (s.answer 0).bytes.b0 = 0x7A then .success else .pmicError) s.rdata] }

/-- 30_encoding.md R117 (decision D12): a reserved opcode is accepted, changes only `STATUS` (and `CMD`), and completes
with `InvalidSetting`. `CMD` after completion is log 26. -/
def Obligations.ReservedResult : Prop :=
  ∀ (i : Instr) (s : State), IsReserved i → s.seq = .idle →
    exec i s = .next { s with
      cmd := commandWord i, status := .invalidSetting, seq := .idle, rspValid := true,
      trace := s.trace ++ [.accept (commandWord i), .complete (commandWord i) .invalidSetting s.rdata] }

/-! ### Results: the bus transactions -/

/-- 41_bus_transport.md R150, R151: the two I2C transactions with the bus enabled and answered ok. The read writes no
block state; `ret`, `asked` are the model's own (log 3). -/
def Obligations.I2cTransactionResult : Prop :=
  (∀ (a d : Byte) (s : State), s.i2cEn = true → (s.answer 0).ok = true →
    exec (.i2cRegWrite a d) s = .next { s with
      pmicW := Memory.write s.pmicW a d, asked := s.asked + 1, seq := s.seq.pop 1, trace := s.trace ++ [.i2cWr a d] }) ∧
  (∀ (a : Byte) (s : State), s.i2cEn = true → (s.answer 0).ok = true →
    exec (.i2cRegRead a) s = .next { s with
      ret := (s.answer 0).bytes.b0, asked := s.asked + 1, seq := s.seq.pop 1,
      trace := s.trace ++ [.i2cRd a (s.answer 0).bytes.b0] })

/-- 41_bus_transport.md R152, 30_encoding.md R107 (decisions D9, D11): the seven frames, answered ok, each with the bytes
it sends: the SPI initialisation if it is the first, then the frame, with as many bytes received as sent. -/
def Obligations.SpiFrameResult : Prop :=
  ∀ (dc : BitVec 24) (x : Byte) (i : Instr) (tx : List Byte) (s : State),
    (i, tx) ∈ ([(.spiWake dc, 0xAB :: dcBytes dc), (.spiResetEnable, [0x66]), (.spiResetConfirm, [0x99]),
      (.spiIdentify dc, 0x9F :: dcBytes dc), (.spiEraseEnable, [0x06]), (.spiChipErase, [0x60]),
      (.spiStatus x, [0x05, x])] : List (Instr × List Byte)) →
    (s.answer 0).ok = true →
    exec i s = .next { s with
      spiInit := true, tx := s.tx.load tx, len := tx.length,
      rx := s.rx.load ((s.answer 0).bytes.take tx.length), asked := s.asked + 1,
      seq := (if s.spiInit then s.seq else s.seq.count).pop 1,
      trace := s.trace ++ (spiInitEvents s ++ [.spiFrame tx ((s.answer 0).bytes.take tx.length)]) }

/-! ### Failures -/

/-- 41_bus_transport.md R150 to R152, R155, 60_exceptions.md R283, R284 (decisions D6, D13): a transfer answered fail, and
an I2C transaction while `i2c_en = 0`, which asks for no answer: the failure event, `Fatal`, `seq <- FATAL`; a write that fails
in either way leaves nothing known of its register (log 12). -/
def Obligations.TransferFailureAborts : Prop :=
  (∀ (a d : Byte) (s : State), s.i2cEn = true → (s.answer 0).ok = false →
    exec (.i2cRegWrite a d) s = .next { s with
      pmicW := Memory.forget s.pmicW a, asked := s.asked + 1, seq := .fatal,
      trace := s.trace ++ [.i2cFail .wr a, .fatal .i2c] }) ∧
  (∀ (a : Byte) (s : State), s.i2cEn = true → (s.answer 0).ok = false →
    exec (.i2cRegRead a) s = .next { s with
      asked := s.asked + 1, seq := .fatal, trace := s.trace ++ [.i2cFail .rd a, .fatal .i2c] }) ∧
  (∀ (a d : Byte) (s : State), s.i2cEn = false →
    exec (.i2cRegWrite a d) s = .next { s with
      pmicW := Memory.forget s.pmicW a, seq := .fatal, trace := s.trace ++ [.i2cFail .wr a, .fatal .i2c] }) ∧
  (∀ (a : Byte) (s : State), s.i2cEn = false →
    exec (.i2cRegRead a) s = .next { s with seq := .fatal, trace := s.trace ++ [.i2cFail .rd a, .fatal .i2c] }) ∧
  (∀ (i : Instr) (tx : List Byte) (s : State), encode i = .spi tx → (s.answer 0).ok = false →
    ∃ rx, exec i s = .next { s with
      spiInit := true, tx := s.tx.load tx, len := tx.length, rx := rx, asked := s.asked + 1, seq := .fatal,
      trace := s.trace ++ (spiInitEvents s ++ [.spiFail tx, .fatal .spi]) })

/-- 42_pmic_rails.md R194, 60_exceptions.md R282: a rail command, in every form, whose transfer fails, at every place: the
writes before it stay made, its own register is unknown, the later ones are not attempted, nothing completes; and a failed
interlock read neither rejects nor permits (decision D6; `asked` and `ret` are the model's own, log 3). -/
def Obligations.RailTransfersCutShort : Prop :=
  (∀ s : State, s.seq = .idle → s.i2cEn = true → (s.answer 0).ok = false →
    exec (.setVaux 0) s = .next (i2cCutShort s 0x30000 [.i2cFail .wr 0x2E]) ∧
    exec (.setVio 0) s = .next (i2cCutShort s 0x40000 [.i2cFail .wr 0x39])) ∧
  (∀ (mv : Operand) (s : State), 800 ≤ mv.toNat → mv.toNat ≤ 3460 → s.seq = .idle → s.i2cEn = true →
    ((s.answer 0).ok = false →
      exec (.setVaux mv) s = .next (i2cCutShort s (commandOf 0x3 mv) [.i2cFail .wr 0x2D]) ∧
      exec (.setVio mv) s = .next (i2cCutShort s (commandOf 0x4 mv) [.i2cFail .wr 0x38])) ∧
    ((s.answer 0).ok = true → (s.answer 1).ok = false →
      exec (.setVaux mv) s = .next (i2cCutShort s (commandOf 0x3 mv)
        [.i2cWr 0x2D (BitVec.ofNat 8 ((mv.toNat - 775) / 50)), .i2cFail .wr 0x2E]) ∧
      exec (.setVio mv) s = .next (i2cCutShort s (commandOf 0x4 mv)
        [.i2cWr 0x38 (BitVec.ofNat 8 ((2 * mv.toNat - 1575) / 50)), .i2cFail .wr 0x39]))) ∧
  (∀ (mv : Operand) (s : State), 3461 ≤ mv.toNat → mv.toNat ≤ 5500 → s.seq = .idle → s.i2cEn = true →
    ((s.answer 0).ok = false →
      exec (.setVaux mv) s = .next (i2cCutShort s (commandOf 0x3 mv) [.i2cFail .rd 0x39])) ∧
    ((s.answer 0).ok = true → (s.answer 0).bytes.b0 &&& vioLswMask = 0 → (s.answer 1).ok = false →
      exec (.setVaux mv) s = .next { i2cCutShort s (commandOf 0x3 mv)
        [.i2cRd 0x39 (s.answer 0).bytes.b0, .i2cFail .wr 0x2D] with ret := (s.answer 0).bytes.b0 }) ∧
    ((s.answer 0).ok = true → (s.answer 0).bytes.b0 &&& vioLswMask = 0 → (s.answer 1).ok = true →
      (s.answer 2).ok = false →
      exec (.setVaux mv) s = .next { i2cCutShort s (commandOf 0x3 mv)
        [.i2cRd 0x39 (s.answer 0).bytes.b0, .i2cWr 0x2D (BitVec.ofNat 8 ((mv.toNat - 775) / 50)), .i2cFail .wr 0x2E]
        with ret := (s.answer 0).bytes.b0 })) ∧
  (∀ (ign : BitVec 15) (en : Bool) (s : State), s.seq = .idle → s.i2cEn = true → (s.answer 0).ok = false →
    exec (.setVfpga ign en) s =
      .next (i2cCutShort s (commandOf 0x5 (ign ++ BitVec.ofBool en)) [.i2cFail .wr 0x2B])) ∧
  (∀ (ign : BitVec 15) (s : State), s.seq = .idle → s.i2cEn = true → (s.answer 0).ok = true → (s.answer 1).ok = false →
    exec (.setVfpga ign true) s = .next (i2cCutShort s (commandOf 0x5 (ign ++ 1#1))
      [.i2cWr 0x2B vfpgaTgt, .i2cFail .wr 0x2C]) ∧
    exec (.setVfpga ign false) s = .next (i2cCutShort s (commandOf 0x5 (ign ++ 0#1))
      [.i2cWr 0x2B vfpgaTgt, .i2cFail .wr 0x39])) ∧
  (∀ (ign : BitVec 15) (s : State), s.seq = .idle → s.i2cEn = true → (s.answer 0).ok = true → (s.answer 1).ok = true →
    (s.answer 2).ok = false →
    exec (.setVfpga ign false) s = .next (i2cCutShort s (commandOf 0x5 (ign ++ 0#1))
      [.i2cWr 0x2B vfpgaTgt, .i2cWr 0x39 vioDis, .i2cFail .wr 0x2C]))

/-- 41_bus_transport.md R153, R154, 45_init.md R260, 43_flash.md R220, 60_exceptions.md R282, R285: every other command
that uses a bus, with its transfer failing at every place: the command ends in `FATAL` there; `INIT` with its first two steps
in effect and the bus enabled; a flash command with the frames before it sent and no delay (decision D6; `asked` is the model's
own, log 3, and the buffers are those of log 11). -/
def Obligations.OtherTransfersCutShort : Prop :=
  (∀ (a b : Byte) (s : State), s.seq = .idle → s.i2cEn = true → (s.answer 0).ok = false →
    exec (.i2cRd a b) s = .next (i2cCutShort s (commandOf 0x1 (a ++ b)) [.i2cFail .rd a]) ∧
    exec (.i2cWr a b) s = .next (i2cCutShort s (commandOf 0x2 (a ++ b)) [.i2cFail .wr a])) ∧
  (∀ (ign : Operand) (s : State), s.seq = .idle → (s.answer 0).ok = false →
    exec (.init ign) s = .next { s with
      cmd := commandOf 0xC ign, seq := .fatal, rspValid := false, asked := s.asked + 1,
      cfgRst := .out, cfgDone := .inPullup, i2cEn := true,
      trace := s.trace ++ [.accept (commandOf 0xC ign), .pinCfgRst .out, .pinCfgDone .inPullup, .i2cInit,
        .i2cFail .rd 0x14, .fatal .i2c] }) ∧
  (∀ (ign : Operand) (i : Instr) (tx : List Byte) (s : State),
    (i, tx) ∈ ([(.flWake ign, [0xAB, 0, 0, 0]), (.flReset ign, [0x66]), (.flIdent ign, [0x9F, 0, 0, 0]),
      (.flErase ign, [0x06]), (.flBusy ign, [0x05, 0])] : List (Instr × List Byte)) →
    s.seq = .idle → (s.answer 0).ok = false →
    ∃ rx, exec i s = .next (spiCutShort s (commandWord i) tx (s.tx.load tx) rx [])) ∧
  (∀ (ign : Operand) (s : State), s.seq = .idle → (s.answer 0).ok = true → (s.answer 1).ok = false →
    (∃ rx, exec (.flReset ign) s = .next (spiCutShort s (commandOf 0x7 ign) [0x99] { s.tx with b0 := 0x99 } rx
      [.spiFrame [0x66] [(s.answer 0).bytes.b0]])) ∧
    (∃ rx, exec (.flErase ign) s = .next (spiCutShort s (commandOf 0x9 ign) [0x60] { s.tx with b0 := 0x60 } rx
      [.spiFrame [0x06] [(s.answer 0).bytes.b0]])))

/-- 41_bus_transport.md R155, 45_init.md R264 (decision D13): before `INIT` every command that touches the I2C bus aborts
at its first access, with no answer asked for. -/
def Obligations.I2cBeforeInitAborts : Prop :=
  ∀ (i : Instr) (f : Event) (s : State), firstAccessFailure i = some f → s.seq = .idle → s.i2cEn = false →
    exec i s = .next { s with
      cmd := commandWord i, rspValid := false, seq := .fatal, pmicW := pmicAfter s.pmicW f,
      trace := s.trace ++ [.accept (commandWord i), f, .fatal .i2c] }

/-- 10_state.md R23, R24, 60_exceptions.md R283, R285 (decision D6): a command that aborts leaves `STATUS` and `RDATA` as
they were, pulses nothing, and ends the trace with the failure on its bus and `Fatal`, with no `Complete`. -/
def Obligations.AbortKeepsResults : Prop :=
  ∀ (i : Instr) (s t : State), IsCommand i → s.seq = .idle → exec i s = .next t → t.seq = .fatal →
    t.status = s.status ∧ t.rdata = s.rdata ∧ t.rspValid = false ∧
    ∃ evs f c, abortBus i = some c ∧ t.trace = s.trace ++ (evs ++ [f, .fatal c]) ∧
      (c = .i2c → ∃ k a, f = .i2cFail k a) ∧ (c = .spi → ∃ tx, f = .spiFail tx) ∧
      ∀ w r d, Event.complete w r d ∉ evs

/-- 60_exceptions.md R271: a command accepted by an idle block ends idle with a code it can have, or in `FATAL` if it uses
a bus. -/
def Obligations.ResultCodesClosed : Prop :=
  ∀ (i : Instr) (s t : State), IsCommand i → s.seq = .idle → exec i s = .next t →
    (t.seq = .idle ∧ mayComplete i t.status) ∨ (t.seq = .fatal ∧ abortBus i ≠ none)

/-- 60_exceptions.md R272: the causes of `InvalidSetting`, exhaustively; it is detected before any hardware write, the
block is idle after it, and nothing is recorded of the cause. -/
def Obligations.InvalidSettingCauses : Prop :=
  ∀ (i : Instr) (s t : State), IsCommand i → s.seq = .idle → exec i s = .next t →
    ((t.seq = .idle ∧ t.status = .invalidSetting) ↔ InvalidSettingCause i s) ∧
    (InvalidSettingCause i s →
      t.pmicW = s.pmicW ∧ t.rdata = s.rdata ∧ ∃ evs, t.trace = s.trace ++ evs ∧ ∀ a d, Event.i2cWr a d ∉ evs)

/-- 60_exceptions.md R273, R274: `PmicError` exactly when `INIT` read another byte than 0x7A from register 0x14,
`FlashError` exactly when `FL_IDENT` received another fourth byte than 0x16; the result register `RDATA` records
neither. -/
def Obligations.IdentityErrorCauses : Prop :=
  ∀ (i : Instr) (s t : State), IsCommand i → s.seq = .idle → exec i s = .next t →
    ((t.seq = .idle ∧ t.status = .pmicError) ↔
      (∃ g, i = .init g) ∧ (s.answer 0).ok = true ∧ (s.answer 0).bytes.b0 ≠ 0x7A) ∧
    ((t.seq = .idle ∧ t.status = .flashError) ↔
      (∃ g, i = .flIdent g) ∧ (s.answer 0).ok = true ∧ (s.answer 0).bytes.b3 ≠ 0x16) ∧
    (t.status = .pmicError ∨ t.status = .flashError → t.seq = .idle → t.rdata = s.rdata)

/-! ### Safety of the rails and of the FPGA -/

/-- 44_fpga_reset.md R251: no instruction raises the reset latch, so no sequence of commands brings the FPGA out of
reset. That only an idle block's step on the host's own write does is R252 (decision D20), with the host's acts as the model
holds them (log 4, log 13). -/
def Obligations.NoCommandReleasesReset : Prop :=
  (∀ (i : Instr) (s t : State), exec i s = .next t →
    (t.pinRst = true → s.pinRst = true) ∧ ∀ evs, t.trace = s.trace ++ evs → Event.pinSet true ∉ evs) ∧
  (∀ s t : State, step s = .next t → s.pinRst = false → t.pinRst = true →
    s.rst = false ∧ s.seq = .idle ∧ ∃ rest, s.inputs = .pinWrite true :: rest)

/-- 41_bus_transport.md R159: the flash commands and the SPI frames do the same whatever `i2c_en` is, and `INIT` leaves
`spi_init` alone. -/
def Obligations.FlashIndependentOfI2c : Prop :=
  (∀ (i : Instr) (b : Bool) (s t : State), IsFlashCommand i ∨ (∃ tx, encode i = .spi tx) → exec i s = .next t →
    exec i { s with i2cEn := b } = .next { t with i2cEn := b }) ∧
  (∀ (g : Operand) (s t : State), exec (.init g) s = .next t → t.spiInit = s.spiInit)

/-! ### The premises on the devices -/

/-- 20_memory.md R65 (decision D23): under premise `PmicRegFile`, `I2C_RD` after `I2C_WR` to the same register returns
the byte written. Without the premise it may return anything (R64). -/
def Obligations.RegFileReadBack : Prop :=
  ∀ (m0 : Byte → Byte) (a d ign : Byte) (s t u : State), s.seq = .idle →
    exec (.i2cWr a d) s = .next t → t.seq = .idle → exec (.i2cRd a ign) t = .next u → u.seq = .idle →
    PmicRegFile m0 false u.trace → u.rdata = d

/-- 20_memory.md R65 (decision D23), 43_flash.md R229: under premise `FlashScript`, `FL_BUSY` completes and returns bit 0
of the second byte of the script's element for its frame. -/
def Obligations.ScriptedBusyPoll : Prop :=
  ∀ (sc : List (List Byte)) (x y : Byte) (ign : Operand) (s t : State), s.seq = .idle →
    exec (.flBusy ign) s = .next t → FlashScript sc t.trace → sc[frameCount s.trace]? = some [x, y] →
    t.seq = .idle ∧ t.status = .success ∧ t.rdata = y &&& 1
end

