-- ==== Sys2Proof/Laws/State.lean ====
section
/-! SUPPORT. Sys2Proof/Laws/State.lean: one lemma per field per named update of the state, and the flags after each. -/

namespace Sys2Proof.Machine

variable (s : State)

@[simp] theorem State.emit_cmd (e : Event) : (s.emit e).cmd = s.cmd := rfl
@[simp] theorem State.emit_status (e : Event) : (s.emit e).status = s.status := rfl
@[simp] theorem State.emit_rdata (e : Event) : (s.emit e).rdata = s.rdata := rfl
@[simp] theorem State.emit_seq (e : Event) : (s.emit e).seq = s.seq := rfl
@[simp] theorem State.emit_i2cEn (e : Event) : (s.emit e).i2cEn = s.i2cEn := rfl
@[simp] theorem State.emit_spiInit (e : Event) : (s.emit e).spiInit = s.spiInit := rfl
@[simp] theorem State.emit_cfgRst (e : Event) : (s.emit e).cfgRst = s.cfgRst := rfl
@[simp] theorem State.emit_pinRst (e : Event) : (s.emit e).pinRst = s.pinRst := rfl
@[simp] theorem State.emit_cfgDone (e : Event) : (s.emit e).cfgDone = s.cfgDone := rfl
@[simp] theorem State.emit_tx (e : Event) : (s.emit e).tx = s.tx := rfl
@[simp] theorem State.emit_rx (e : Event) : (s.emit e).rx = s.rx := rfl
@[simp] theorem State.emit_len (e : Event) : (s.emit e).len = s.len := rfl
@[simp] theorem State.emit_dly (e : Event) : (s.emit e).dly = s.dly := rfl
@[simp] theorem State.emit_rspValid (e : Event) : (s.emit e).rspValid = s.rspValid := rfl
@[simp] theorem State.emit_rst (e : Event) : (s.emit e).rst = s.rst := rfl
@[simp] theorem State.emit_inputs (e : Event) : (s.emit e).inputs = s.inputs := rfl
@[simp] theorem State.emit_ret (e : Event) : (s.emit e).ret = s.ret := rfl
@[simp] theorem State.emit_script (e : Event) : (s.emit e).script = s.script := rfl
@[simp] theorem State.emit_asked (e : Event) : (s.emit e).asked = s.asked := rfl
@[simp] theorem State.emit_trace (e : Event) : (s.emit e).trace = s.trace ++ [e] := rfl
@[simp] theorem State.emit_pmicW (e : Event) : (s.emit e).pmicW = s.pmicW := rfl

@[simp] theorem State.advance_cmd (n : Nat) : (s.advance n).cmd = s.cmd := rfl
@[simp] theorem State.advance_status (n : Nat) : (s.advance n).status = s.status := rfl
@[simp] theorem State.advance_rdata (n : Nat) : (s.advance n).rdata = s.rdata := rfl
@[simp] theorem State.advance_seq (n : Nat) : (s.advance n).seq = s.seq.pop n := rfl
@[simp] theorem State.advance_i2cEn (n : Nat) : (s.advance n).i2cEn = s.i2cEn := rfl
@[simp] theorem State.advance_spiInit (n : Nat) : (s.advance n).spiInit = s.spiInit := rfl
@[simp] theorem State.advance_cfgRst (n : Nat) : (s.advance n).cfgRst = s.cfgRst := rfl
@[simp] theorem State.advance_pinRst (n : Nat) : (s.advance n).pinRst = s.pinRst := rfl
@[simp] theorem State.advance_cfgDone (n : Nat) : (s.advance n).cfgDone = s.cfgDone := rfl
@[simp] theorem State.advance_tx (n : Nat) : (s.advance n).tx = s.tx := rfl
@[simp] theorem State.advance_rx (n : Nat) : (s.advance n).rx = s.rx := rfl
@[simp] theorem State.advance_len (n : Nat) : (s.advance n).len = s.len := rfl
@[simp] theorem State.advance_dly (n : Nat) : (s.advance n).dly = s.dly := rfl
@[simp] theorem State.advance_rspValid (n : Nat) : (s.advance n).rspValid = s.rspValid := rfl
@[simp] theorem State.advance_rst (n : Nat) : (s.advance n).rst = s.rst := rfl
@[simp] theorem State.advance_inputs (n : Nat) : (s.advance n).inputs = s.inputs := rfl
@[simp] theorem State.advance_ret (n : Nat) : (s.advance n).ret = s.ret := rfl
@[simp] theorem State.advance_script (n : Nat) : (s.advance n).script = s.script := rfl
@[simp] theorem State.advance_asked (n : Nat) : (s.advance n).asked = s.asked := rfl
@[simp] theorem State.advance_trace (n : Nat) : (s.advance n).trace = s.trace := rfl
@[simp] theorem State.advance_pmicW (n : Nat) : (s.advance n).pmicW = s.pmicW := rfl

@[simp] theorem State.complete_cmd (r : Result) : (s.complete r).cmd = s.cmd := rfl
@[simp] theorem State.complete_status (r : Result) : (s.complete r).status = r := rfl
@[simp] theorem State.complete_rdata (r : Result) : (s.complete r).rdata = s.rdata := rfl
@[simp] theorem State.complete_seq (r : Result) : (s.complete r).seq = .idle := rfl
@[simp] theorem State.complete_i2cEn (r : Result) : (s.complete r).i2cEn = s.i2cEn := rfl
@[simp] theorem State.complete_spiInit (r : Result) : (s.complete r).spiInit = s.spiInit := rfl
@[simp] theorem State.complete_cfgRst (r : Result) : (s.complete r).cfgRst = s.cfgRst := rfl
@[simp] theorem State.complete_pinRst (r : Result) : (s.complete r).pinRst = s.pinRst := rfl
@[simp] theorem State.complete_cfgDone (r : Result) : (s.complete r).cfgDone = s.cfgDone := rfl
@[simp] theorem State.complete_tx (r : Result) : (s.complete r).tx = s.tx := rfl
@[simp] theorem State.complete_rx (r : Result) : (s.complete r).rx = s.rx := rfl
@[simp] theorem State.complete_len (r : Result) : (s.complete r).len = s.len := rfl
@[simp] theorem State.complete_dly (r : Result) : (s.complete r).dly = s.dly := rfl
@[simp] theorem State.complete_rspValid (r : Result) : (s.complete r).rspValid = true := rfl
@[simp] theorem State.complete_rst (r : Result) : (s.complete r).rst = s.rst := rfl
@[simp] theorem State.complete_inputs (r : Result) : (s.complete r).inputs = s.inputs := rfl
@[simp] theorem State.complete_ret (r : Result) : (s.complete r).ret = s.ret := rfl
@[simp] theorem State.complete_script (r : Result) : (s.complete r).script = s.script := rfl
@[simp] theorem State.complete_asked (r : Result) : (s.complete r).asked = s.asked := rfl
@[simp] theorem State.complete_trace (r : Result) : (s.complete r).trace = s.trace ++ [.complete s.cmd r s.rdata] := rfl
@[simp] theorem State.complete_pmicW (r : Result) : (s.complete r).pmicW = s.pmicW := rfl

@[simp] theorem State.fatalAbort_cmd (c : Bus) : (s.fatalAbort c).cmd = s.cmd := rfl
@[simp] theorem State.fatalAbort_status (c : Bus) : (s.fatalAbort c).status = s.status := rfl
@[simp] theorem State.fatalAbort_rdata (c : Bus) : (s.fatalAbort c).rdata = s.rdata := rfl
@[simp] theorem State.fatalAbort_seq (c : Bus) : (s.fatalAbort c).seq = .fatal := rfl
@[simp] theorem State.fatalAbort_i2cEn (c : Bus) : (s.fatalAbort c).i2cEn = s.i2cEn := rfl
@[simp] theorem State.fatalAbort_spiInit (c : Bus) : (s.fatalAbort c).spiInit = s.spiInit := rfl
@[simp] theorem State.fatalAbort_cfgRst (c : Bus) : (s.fatalAbort c).cfgRst = s.cfgRst := rfl
@[simp] theorem State.fatalAbort_pinRst (c : Bus) : (s.fatalAbort c).pinRst = s.pinRst := rfl
@[simp] theorem State.fatalAbort_cfgDone (c : Bus) : (s.fatalAbort c).cfgDone = s.cfgDone := rfl
@[simp] theorem State.fatalAbort_tx (c : Bus) : (s.fatalAbort c).tx = s.tx := rfl
@[simp] theorem State.fatalAbort_rx (c : Bus) : (s.fatalAbort c).rx = s.rx := rfl
@[simp] theorem State.fatalAbort_len (c : Bus) : (s.fatalAbort c).len = s.len := rfl
@[simp] theorem State.fatalAbort_dly (c : Bus) : (s.fatalAbort c).dly = s.dly := rfl
@[simp] theorem State.fatalAbort_rspValid (c : Bus) : (s.fatalAbort c).rspValid = s.rspValid := rfl
@[simp] theorem State.fatalAbort_rst (c : Bus) : (s.fatalAbort c).rst = s.rst := rfl
@[simp] theorem State.fatalAbort_inputs (c : Bus) : (s.fatalAbort c).inputs = s.inputs := rfl
@[simp] theorem State.fatalAbort_ret (c : Bus) : (s.fatalAbort c).ret = s.ret := rfl
@[simp] theorem State.fatalAbort_script (c : Bus) : (s.fatalAbort c).script = s.script := rfl
@[simp] theorem State.fatalAbort_asked (c : Bus) : (s.fatalAbort c).asked = s.asked := rfl
@[simp] theorem State.fatalAbort_trace (c : Bus) : (s.fatalAbort c).trace = s.trace ++ [.fatal c] := rfl
@[simp] theorem State.fatalAbort_pmicW (c : Bus) : (s.fatalAbort c).pmicW = s.pmicW := rfl

@[simp] theorem State.accept_cmd (w : Word) (p : List Micro) : (s.accept w p).cmd = w := rfl
@[simp] theorem State.accept_status (w : Word) (p : List Micro) : (s.accept w p).status = s.status := rfl
@[simp] theorem State.accept_rdata (w : Word) (p : List Micro) : (s.accept w p).rdata = s.rdata := rfl
@[simp] theorem State.accept_seq (w : Word) (p : List Micro) : (s.accept w p).seq = .run 0 p := rfl
@[simp] theorem State.accept_i2cEn (w : Word) (p : List Micro) : (s.accept w p).i2cEn = s.i2cEn := rfl
@[simp] theorem State.accept_spiInit (w : Word) (p : List Micro) : (s.accept w p).spiInit = s.spiInit := rfl
@[simp] theorem State.accept_cfgRst (w : Word) (p : List Micro) : (s.accept w p).cfgRst = s.cfgRst := rfl
@[simp] theorem State.accept_pinRst (w : Word) (p : List Micro) : (s.accept w p).pinRst = s.pinRst := rfl
@[simp] theorem State.accept_cfgDone (w : Word) (p : List Micro) : (s.accept w p).cfgDone = s.cfgDone := rfl
@[simp] theorem State.accept_tx (w : Word) (p : List Micro) : (s.accept w p).tx = s.tx := rfl
@[simp] theorem State.accept_rx (w : Word) (p : List Micro) : (s.accept w p).rx = s.rx := rfl
@[simp] theorem State.accept_len (w : Word) (p : List Micro) : (s.accept w p).len = s.len := rfl
@[simp] theorem State.accept_dly (w : Word) (p : List Micro) : (s.accept w p).dly = s.dly := rfl
@[simp] theorem State.accept_rspValid (w : Word) (p : List Micro) : (s.accept w p).rspValid = false := rfl
@[simp] theorem State.accept_rst (w : Word) (p : List Micro) : (s.accept w p).rst = s.rst := rfl
@[simp] theorem State.accept_inputs (w : Word) (p : List Micro) : (s.accept w p).inputs = s.inputs := rfl
@[simp] theorem State.accept_ret (w : Word) (p : List Micro) : (s.accept w p).ret = s.ret := rfl
@[simp] theorem State.accept_script (w : Word) (p : List Micro) : (s.accept w p).script = s.script := rfl
@[simp] theorem State.accept_asked (w : Word) (p : List Micro) : (s.accept w p).asked = s.asked := rfl
@[simp] theorem State.accept_trace (w : Word) (p : List Micro) : (s.accept w p).trace = s.trace ++ [.accept w] := rfl
@[simp] theorem State.accept_pmicW (w : Word) (p : List Micro) : (s.accept w p).pmicW = s.pmicW := rfl

@[simp] theorem State.hostPinWrite_cmd (l : Bool) : (s.hostPinWrite l).cmd = s.cmd := rfl
@[simp] theorem State.hostPinWrite_status (l : Bool) : (s.hostPinWrite l).status = s.status := rfl
@[simp] theorem State.hostPinWrite_rdata (l : Bool) : (s.hostPinWrite l).rdata = s.rdata := rfl
@[simp] theorem State.hostPinWrite_seq (l : Bool) : (s.hostPinWrite l).seq = s.seq := rfl
@[simp] theorem State.hostPinWrite_i2cEn (l : Bool) : (s.hostPinWrite l).i2cEn = s.i2cEn := rfl
@[simp] theorem State.hostPinWrite_spiInit (l : Bool) : (s.hostPinWrite l).spiInit = s.spiInit := rfl
@[simp] theorem State.hostPinWrite_cfgRst (l : Bool) : (s.hostPinWrite l).cfgRst = s.cfgRst := rfl
@[simp] theorem State.hostPinWrite_pinRst (l : Bool) : (s.hostPinWrite l).pinRst = l := rfl
@[simp] theorem State.hostPinWrite_cfgDone (l : Bool) : (s.hostPinWrite l).cfgDone = s.cfgDone := rfl
@[simp] theorem State.hostPinWrite_tx (l : Bool) : (s.hostPinWrite l).tx = s.tx := rfl
@[simp] theorem State.hostPinWrite_rx (l : Bool) : (s.hostPinWrite l).rx = s.rx := rfl
@[simp] theorem State.hostPinWrite_len (l : Bool) : (s.hostPinWrite l).len = s.len := rfl
@[simp] theorem State.hostPinWrite_dly (l : Bool) : (s.hostPinWrite l).dly = s.dly := rfl
@[simp] theorem State.hostPinWrite_rspValid (l : Bool) : (s.hostPinWrite l).rspValid = s.rspValid := rfl
@[simp] theorem State.hostPinWrite_rst (l : Bool) : (s.hostPinWrite l).rst = s.rst := rfl
@[simp] theorem State.hostPinWrite_inputs (l : Bool) : (s.hostPinWrite l).inputs = s.inputs := rfl
@[simp] theorem State.hostPinWrite_ret (l : Bool) : (s.hostPinWrite l).ret = s.ret := rfl
@[simp] theorem State.hostPinWrite_script (l : Bool) : (s.hostPinWrite l).script = s.script := rfl
@[simp] theorem State.hostPinWrite_asked (l : Bool) : (s.hostPinWrite l).asked = s.asked := rfl
@[simp] theorem State.hostPinWrite_trace (l : Bool) : (s.hostPinWrite l).trace = s.trace ++ [.pinSet l] := rfl
@[simp] theorem State.hostPinWrite_pmicW (l : Bool) : (s.hostPinWrite l).pmicW = s.pmicW := rfl

@[simp] theorem State.takeReset_cmd : (s.takeReset).cmd = 0 := rfl
@[simp] theorem State.takeReset_status : (s.takeReset).status = .success := rfl
@[simp] theorem State.takeReset_rdata : (s.takeReset).rdata = 0 := rfl
@[simp] theorem State.takeReset_seq : (s.takeReset).seq = .idle := rfl
@[simp] theorem State.takeReset_i2cEn : (s.takeReset).i2cEn = false := rfl
@[simp] theorem State.takeReset_spiInit : (s.takeReset).spiInit = false := rfl
@[simp] theorem State.takeReset_cfgRst : (s.takeReset).cfgRst = .hiz := rfl
@[simp] theorem State.takeReset_pinRst : (s.takeReset).pinRst = false := rfl
@[simp] theorem State.takeReset_cfgDone : (s.takeReset).cfgDone = .hiz := rfl
@[simp] theorem State.takeReset_tx : (s.takeReset).tx = Buf.zero := rfl
@[simp] theorem State.takeReset_rx : (s.takeReset).rx = Buf.zero := rfl
@[simp] theorem State.takeReset_len : (s.takeReset).len = 1 := rfl
@[simp] theorem State.takeReset_dly : (s.takeReset).dly = 0 := rfl
@[simp] theorem State.takeReset_rspValid : (s.takeReset).rspValid = false := rfl
@[simp] theorem State.takeReset_rst : (s.takeReset).rst = false := rfl
@[simp] theorem State.takeReset_inputs : (s.takeReset).inputs = s.inputs := rfl
@[simp] theorem State.takeReset_ret : (s.takeReset).ret = 0 := rfl
@[simp] theorem State.takeReset_script : (s.takeReset).script = s.script := rfl
@[simp] theorem State.takeReset_asked : (s.takeReset).asked = s.asked := rfl
@[simp] theorem State.takeReset_trace : (s.takeReset).trace = [] := rfl
@[simp] theorem State.takeReset_pmicW : (s.takeReset).pmicW = [] := rfl

@[simp] theorem State.complete_busy (r : Result) : (s.complete r).busy = false := rfl
@[simp] theorem State.complete_fatal (r : Result) : (s.complete r).fatal = false := rfl
@[simp] theorem State.complete_cmdReady (r : Result) : (s.complete r).cmdReady = true := rfl
@[simp] theorem State.fatalAbort_busy (c : Bus) : (s.fatalAbort c).busy = false := rfl
@[simp] theorem State.fatalAbort_fatal (c : Bus) : (s.fatalAbort c).fatal = true := rfl
@[simp] theorem State.fatalAbort_cmdReady (c : Bus) : (s.fatalAbort c).cmdReady = false := rfl
@[simp] theorem State.accept_busy (w : Word) (p : List Micro) : (s.accept w p).busy = true := rfl
@[simp] theorem State.accept_fatal (w : Word) (p : List Micro) : (s.accept w p).fatal = false := rfl
@[simp] theorem State.accept_cmdReady (w : Word) (p : List Micro) : (s.accept w p).cmdReady = false := rfl
@[simp] theorem State.takeReset_busy : (s.takeReset).busy = false := rfl
@[simp] theorem State.takeReset_fatal : (s.takeReset).fatal = false := rfl
@[simp] theorem State.takeReset_cmdReady : (s.takeReset).cmdReady = true := rfl

@[simp] theorem Seq.pop_idle (n : Nat) : Seq.idle.pop n = .idle := rfl
@[simp] theorem Seq.pop_run (n k : Nat) (todo : List Micro) : (Seq.run k todo).pop n = .run (k + n) todo.tail := rfl
@[simp] theorem Seq.pop_fatal (n : Nat) : Seq.fatal.pop n = .fatal := rfl
@[simp] theorem Seq.count_idle : Seq.idle.count = .idle := rfl
@[simp] theorem Seq.count_run (k : Nat) (todo : List Micro) : (Seq.run k todo).count = .run (k + 1) todo := rfl
@[simp] theorem Seq.count_fatal : Seq.fatal.count = .fatal := rfl

/-- `cmd_ready` is 1 exactly when `seq = IDLE` (10_state.md R21). -/
theorem State.cmdReady_iff : s.cmdReady = true ↔ s.seq = .idle := by
  unfold State.cmdReady; cases s.seq <;> simp

/-- `busy` is 1 exactly when `seq = RUN(_)` (10_state.md R29). -/
theorem State.busy_iff : s.busy = true ↔ ∃ k todo, s.seq = .run k todo := by
  unfold State.busy; cases s.seq <;> simp

/-- `fatal` is 1 exactly when `seq = FATAL` (10_state.md R30). -/
theorem State.fatal_iff : s.fatal = true ↔ s.seq = .fatal := by
  unfold State.fatal; cases s.seq <;> simp

end Sys2Proof.Machine
end

