-- ==== Sys2Proof/Laws/Ops.lean ====
section
/-! SUPPORT. Sys2Proof/Laws/Ops.lean: what each shared operation can do, said once: the transfers by the oracle's answer,
the running of a command's lines, and a command as a whole. -/

namespace Sys2Proof.Machine

variable (s : State)

/-! ### Transfers -/

/-- `MemRead` answered ok (41_bus_transport.md R150). -/
theorem State.memRead_ok (a : Byte) (he : s.i2cEn = true) (hk : (s.answer 0).ok = true) :
    s.memRead a = { s with ret := (s.answer 0).bytes.b0, asked := s.asked + 1, seq := s.seq.pop 1,
                           trace := s.trace ++ [.i2cRd a (s.answer 0).bytes.b0] } := by
  simp [State.memRead, he, hk]

/-- `MemRead` answered fail (41_bus_transport.md R150). -/
theorem State.memRead_fail (a : Byte) (he : s.i2cEn = true) (hk : (s.answer 0).ok = false) :
    s.memRead a = { s with asked := s.asked + 1, seq := .fatal, trace := s.trace ++ [.i2cFail .rd a, .fatal .i2c] } := by
  simp [State.memRead, State.fatalAbort, he, hk]

/-- `MemRead` before `INIT` (41_bus_transport.md R155). -/
theorem State.memRead_disabled (a : Byte) (he : s.i2cEn = false) :
    s.memRead a = { s with seq := .fatal, trace := s.trace ++ [.i2cFail .rd a, .fatal .i2c] } := by
  simp [State.memRead, State.fatalAbort, he]

/-- `MemWrite` answered ok (41_bus_transport.md R151). -/
theorem State.memWrite_ok (a d : Byte) (he : s.i2cEn = true) (hk : (s.answer 0).ok = true) :
    s.memWrite a d = { s with pmicW := Memory.write s.pmicW a d, asked := s.asked + 1, seq := s.seq.pop 1,
                              trace := s.trace ++ [.i2cWr a d] } := by
  simp [State.memWrite, he, hk]

/-- `MemWrite` answered fail (41_bus_transport.md R151, 20_memory.md R75). -/
theorem State.memWrite_fail (a d : Byte) (he : s.i2cEn = true) (hk : (s.answer 0).ok = false) :
    s.memWrite a d = { s with pmicW := Memory.forget s.pmicW a, asked := s.asked + 1, seq := .fatal,
                              trace := s.trace ++ [.i2cFail .wr a, .fatal .i2c] } := by
  simp [State.memWrite, State.fatalAbort, he, hk]

/-- `MemWrite` before `INIT` (41_bus_transport.md R155). -/
theorem State.memWrite_disabled (a d : Byte) (he : s.i2cEn = false) :
    s.memWrite a d = { s with pmicW := Memory.forget s.pmicW a, seq := .fatal,
                              trace := s.trace ++ [.i2cFail .wr a, .fatal .i2c] } := by
  simp [State.memWrite, State.fatalAbort, he]

/-- The next answer does not depend on the SPI initialisation. -/
@[simp] theorem State.ensureSpi_answer (k : Nat) : s.ensureSpi.answer k = s.answer k := by
  unfold State.ensureSpi; split <;> rfl

/-- `SpiXfer` answered ok (41_bus_transport.md R152). -/
theorem State.spiXfer_ok (tx : List Byte) (hk : (s.answer 0).ok = true) :
    s.spiXfer tx = { s with
      spiInit := true, tx := s.tx.load tx, len := tx.length, rx := s.rx.load ((s.answer 0).bytes.take tx.length),
      asked := s.asked + 1, seq := (if s.spiInit then s.seq else s.seq.count).pop 1,
      trace := s.trace ++ ((if s.spiInit then [] else [.spiInit]) ++
        [.spiFrame tx ((s.answer 0).bytes.take tx.length)]) } := by
  simp only [State.spiXfer, State.spiFrame, State.ensureSpi_answer, hk, if_true]
  cases h : s.spiInit <;> simp [State.ensureSpi, h]

/-- `SpiXfer` answered fail (41_bus_transport.md R152). -/
theorem State.spiXfer_fail (tx : List Byte) (hk : (s.answer 0).ok = false) :
    s.spiXfer tx = { s with
      spiInit := true, tx := s.tx.load tx, len := tx.length, rx := s.rx.load ((s.answer 0).bytes.take tx.length),
      asked := s.asked + 1, seq := .fatal,
      trace := s.trace ++ ((if s.spiInit then [] else [.spiInit]) ++ [.spiFail tx, .fatal .spi]) } := by
  simp only [State.spiXfer, State.spiFrame, State.ensureSpi_answer, hk]
  cases h : s.spiInit <;> simp [State.ensureSpi, State.fatalAbort, h]

/-- A transfer either aborts or does one line, in one micro-step or two. -/
theorem State.transfer_seq (x : Transfer) :
    (s.transfer x).seq = .fatal ∨ (s.transfer x).seq = s.seq.pop 1 ∨
      (s.spiInit = false ∧ (s.transfer x).seq = s.seq.count.pop 1) := by
  have hspi : ∀ tx, (s.spiXfer tx).seq = .fatal ∨ (s.spiXfer tx).seq = s.seq.pop 1 ∨
      (s.spiInit = false ∧ (s.spiXfer tx).seq = s.seq.count.pop 1) := by
    intro tx
    cases hk : (s.answer 0).ok
    · exact .inl (by rw [State.spiXfer_fail s tx hk])
    · rw [State.spiXfer_ok s tx hk]
      cases h : s.spiInit
      · exact .inr (.inr ⟨rfl, by simp⟩)
      · exact .inr (.inl (by simp))
  cases x with
  | regWrite a d =>
    simp only [State.transfer, State.memWrite]
    split
    · split
      · exact .inr (.inl rfl)
      · exact .inl rfl
    · exact .inl rfl
  | regRead a =>
    simp only [State.transfer, State.memRead]
    split
    · split
      · exact .inr (.inl rfl)
      · exact .inl rfl
    · exact .inl rfl
  | _ => exact hspi _

/-! ### The delay -/

/-- The down-counter ends at zero (60_exceptions.md R293). -/
@[simp] theorem runDown_eq_zero (n : Nat) : runDown n = 0 := by
  induction n with
  | zero => rfl
  | succ n ih => simpa [runDown] using ih

/-! ### The lines of a command -/

@[simp] theorem State.runLines_nil : s.runLines [] = s := rfl

theorem State.runLines_cons (m : Micro) (rest : List Micro) :
    s.runLines (m :: rest) = (s.micro m).andThen (State.runLines rest) := rfl

/-- A line that leaves the command in progress is followed by the others. -/
theorem State.andThen_busy (f : State → State) (h : s.busy = true) : s.andThen f = f s := by
  simp [State.andThen, h]

/-- A line that ends the command is the last. -/
theorem State.andThen_ended (f : State → State) (h : s.busy = false) : s.andThen f = s := by
  simp [State.andThen, h]

/-- The last line of every plan ends the command. -/
@[simp] theorem State.runLines_complete (r : Result) (rest : List Micro) :
    s.runLines (.complete r :: rest) = s.complete r := rfl

/-- What every line keeps, a command's lines keep. -/
theorem State.runLines_keeps {P : State → Prop} (hP : ∀ m t, P t → P (t.micro m)) (plan : List Micro) (t : State)
    (h : P t) : P (t.runLines plan) := by
  induction plan generalizing t with
  | nil => exact h
  | cons m rest ih =>
    rw [State.runLines_cons]
    unfold State.andThen
    split
    · exact ih _ (hP m t h)
    · exact hP m t h

/-! ### Commands -/

/-- An idle block accepts the command and does its lines. -/
theorem State.command_idle (i : Instr) (plan : List Micro) (h : s.seq = .idle) :
    s.command i plan = (s.accept (commandWord i) plan).runLines plan := by
  simp [State.command, (s.cmdReady_iff).2 h]

/-- Any other block does not accept it (20_memory.md R87). -/
theorem State.command_not_idle (i : Instr) (plan : List Micro) (h : s.seq ≠ .idle) : s.command i plan = s := by
  have : s.cmdReady = false := by
    cases hc : s.cmdReady
    · rfl
    · exact absurd ((s.cmdReady_iff).1 hc) h
  simp [State.command, this]

/-- What acceptance and every line keep, a command keeps. -/
theorem State.command_keeps {P : State → Prop} (i : Instr) (plan : List Micro) (t : State)
    (ha : ∀ t, P t → P (t.accept (commandWord i) plan)) (hP : ∀ m t, P t → P (t.micro m)) (h : P t) :
    P (t.command i plan) := by
  unfold State.command
  split
  · exact State.runLines_keeps hP plan _ (ha t h)
  · exact h

end Sys2Proof.Machine
end

