-- ==== Sys2Proof/Laws/Exec.lean ====
section
/-! SUPPORT. Sys2Proof/Laws/Exec.lean: every meaning is one of two shapes: a command is its plan run by `State.command`, a
bus row is its transfer. -/

namespace Sys2Proof.Machine

open Sys2Proof.Safety

/-- A command's meaning is its lines. -/
theorem exec_command {i : Instr} {plan : List Micro} (h : planOf i = some plan) (s : State) :
    exec i s = .next (s.command i plan) := by
  cases i <;> cases h <;> rfl

/-- A bus row's meaning is its transfer. -/
theorem exec_transfer {i : Instr} {x : Transfer} (h : instrTransfer i = some x) (s : State) :
    exec i s = .next (s.transfer x) := by
  cases i <;> cases h <;> rfl

/-- A command has lines. -/
theorem planOf_of_isCommand {i : Instr} (h : IsCommand i) : ∃ plan, planOf i = some plan := by
  cases i <;> first | exact ⟨_, rfl⟩ | cases h

/-- An instruction with lines is a command. -/
theorem isCommand_of_planOf {i : Instr} {plan : List Micro} (h : planOf i = some plan) : IsCommand i := by
  cases i <;> first | rfl | cases h

/-- A transfer is the bus row it is. -/
@[simp] theorem instrTransfer_transferInstr (x : Transfer) : instrTransfer (transferInstr x) = some x := by
  cases x <;> rfl

/-- Every instruction answers a next state: a command's or a transfer's. -/
theorem exec_cases (i : Instr) (s : State) :
    (∃ plan, planOf i = some plan ∧ exec i s = .next (s.command i plan)) ∨
    (∃ x, instrTransfer i = some x ∧ exec i s = .next (s.transfer x)) := by
  cases h : instrTransfer i with
  | none =>
    obtain ⟨plan, hp⟩ := planOf_of_isCommand (i := i) h
    exact .inl ⟨plan, hp, exec_command hp s⟩
  | some x => exact .inr ⟨x, rfl, exec_transfer h s⟩

end Sys2Proof.Machine
end

