-- ==== Sys2Proof/Laws/Memory.lean ====
section
/-! SUPPORT. Sys2Proof/Laws/Memory.lean: every memory operation keeps the canonical form, and the memory after reset has
it. -/

namespace Sys2Proof.Machine

theorem Memory.wf_iff (m : Memory) :
    Memory.wf m = true ↔ m.Pairwise (fun x y => x.1 < y.1) ∧ ∀ c ∈ m, c.1 < 256 := by
  simp [Memory.wf]

/-- Every entry after an insertion is the new one or an old one. -/
theorem Memory.mem_insert {m : Memory} {a : Nat} {d : Byte} {c : Host.Cell} (h : c ∈ Memory.insert m a d) :
    c = (a, d) ∨ c ∈ m := by
  induction m with
  | nil => simpa [Memory.insert] using h
  | cons e rest ih =>
    obtain ⟨k, v⟩ := e
    simp only [Memory.insert] at h
    split at h
    · simpa using h
    · split at h
      · rcases List.mem_cons.1 h with h | h
        · exact .inl h
        · exact .inr (List.mem_cons_of_mem _ h)
      · rcases List.mem_cons.1 h with h | h
        · exact .inr (h ▸ List.mem_cons_self)
        · exact (ih h).imp id (List.mem_cons_of_mem _)

theorem Memory.insert_wf {m : Memory} {a : Nat} {d : Byte} (hm : Memory.wf m = true) (ha : a < 256) :
    Memory.wf (Memory.insert m a d) = true := by
  induction m with
  | nil => simp [Memory.insert, Memory.wf, ha]
  | cons e rest ih =>
    obtain ⟨k, v⟩ := e
    obtain ⟨hp, hb⟩ := (Memory.wf_iff _).1 hm
    obtain ⟨hk, hp'⟩ := List.pairwise_cons.1 hp
    have hrest : Memory.wf rest = true :=
      (Memory.wf_iff _).2 ⟨hp', fun c hc => hb c (List.mem_cons_of_mem _ hc)⟩
    have hkb : k < 256 := hb (k, v) List.mem_cons_self
    obtain ⟨hip, hib⟩ := (Memory.wf_iff _).1 (ih hrest)
    simp only [Memory.insert]
    split
    next hlt =>
      refine (Memory.wf_iff _).2 ⟨List.pairwise_cons.2 ⟨fun c hc => ?_, hp⟩, fun c hc => ?_⟩
      · rcases List.mem_cons.1 hc with rfl | hc
        · exact hlt
        · exact Nat.lt_trans hlt (hk c hc)
      · rcases List.mem_cons.1 hc with rfl | hc
        · exact ha
        · exact hb c hc
    next hlt =>
      split
      next heq =>
        subst heq
        refine (Memory.wf_iff _).2 ⟨List.pairwise_cons.2 ⟨hk, hp'⟩, fun c hc => ?_⟩
        rcases List.mem_cons.1 hc with rfl | hc
        · exact ha
        · exact hb c (List.mem_cons_of_mem _ hc)
      next hne =>
        refine (Memory.wf_iff _).2 ⟨List.pairwise_cons.2 ⟨fun c hc => ?_, hip⟩, fun c hc => ?_⟩
        · rcases Memory.mem_insert hc with rfl | hc
          · show k < a
            omega
          · exact hk c hc
        · rcases List.mem_cons.1 hc with rfl | hc
          · exact hkb
          · exact hib c hc

/-- `pmic_w[a] <- some d` keeps the canonical form. -/
theorem Memory.write_wf {m : Memory} (a d : Byte) (hm : Memory.wf m = true) : Memory.wf (Memory.write m a d) = true :=
  Memory.insert_wf hm a.isLt

/-- `pmic_w[a] <- none` keeps the canonical form. -/
theorem Memory.forget_wf {m : Memory} (a : Byte) (hm : Memory.wf m = true) : Memory.wf (Memory.forget m a) = true := by
  obtain ⟨hp, hb⟩ := (Memory.wf_iff _).1 hm
  exact (Memory.wf_iff _).2 ⟨hp.filter _, fun c hc => hb c (List.mem_of_mem_filter hc)⟩

/-- What one event does to `pmic_w` keeps the canonical form. -/
theorem pmicAfter_wf {m : Memory} (e : Event) (hm : Memory.wf m = true) : Memory.wf (pmicAfter m e) = true := by
  cases e with
  | i2cWr a d => exact Memory.write_wf a d hm
  | i2cFail k a => cases k with
    | rd => exact hm
    | wr => exact Memory.forget_wf a hm
  | _ => exact hm

/-- The memory after reset has the canonical form. -/
theorem reset_memory_wf : Memory.wf State.reset.pmicW = true := by decide

end Sys2Proof.Machine
end

