-- ==== Sys2Proof/Laws/Operands.lean ====
section
/-! SUPPORT. Sys2Proof/Laws/Operands.lean: the millivolt checks of the command port decide what the constants of 00_scope.md
R7, in volts, say. -/

namespace Sys2Proof.Machine

theorem volts_le_iff (mv : Operand) (n : Nat) : volts mv ≤ (n : Rat) / 1000 ↔ mv.toNat ≤ n := by
  rw [volts, div_le_div_iff_of_pos_right (by norm_num), Nat.cast_le]

theorem le_volts_iff (mv : Operand) (n : Nat) : (n : Rat) / 1000 ≤ volts mv ↔ n ≤ mv.toNat := by
  rw [volts, div_le_div_iff_of_pos_right (by norm_num), Nat.cast_le]

/-- The interlock applies strictly above `V_INTERLOCK`. -/
theorem needsInterlock_iff_volts (mv : Operand) : needsInterlock mv = true ↔ vInterlock < volts mv := by
  have h : vInterlock = ((3460 : Nat) : Rat) / 1000 := by norm_num [vInterlock]
  rw [h, ← not_le, volts_le_iff, needsInterlock, decide_eq_true_iff, Nat.not_le]

/-- `SET_VAUX` rejects the non-zero voltages outside `VAUX_MIN` to `VAUX_MAX`. -/
theorem vauxRejected_iff_volts (mv : Operand) :
    vauxRejected mv = true ↔ mv.toNat ≠ 0 ∧ ¬ (vauxMin ≤ volts mv ∧ volts mv ≤ vauxMax) := by
  have h : vauxMin = ((800 : Nat) : Rat) / 1000 ∧ vauxMax = ((5500 : Nat) : Rat) / 1000 := by
    norm_num [vauxMin, vauxMax]
  rw [h.1, h.2, le_volts_iff, volts_le_iff]
  simp [vauxRejected]
  omega

/-- `SET_VIO` rejects the non-zero voltages outside `VIO_MIN` to `VIO_MAX`. -/
theorem vioRejected_iff_volts (mv : Operand) :
    vioRejected mv = true ↔ mv.toNat ≠ 0 ∧ ¬ (vioMin ≤ volts mv ∧ volts mv ≤ vioMax) := by
  have h : vioMin = ((800 : Nat) : Rat) / 1000 ∧ vioMax = ((3460 : Nat) : Rat) / 1000 := by
    norm_num [vioMin, vioMax]
  rw [h.1, h.2, le_volts_iff, volts_le_iff]
  simp [vioRejected]
  omega

/-- The core rail's one code stands for `VFPGA_VOLTS`, 1.2 V. -/
theorem vfpgaVolts_millivolts : vfpgaVolts = volts 1200 := by
  have h : (1200 : Operand).toNat = 1200 := rfl
  rw [vfpgaVolts, volts, h]
  norm_num

end Sys2Proof.Machine
end

