-- ==== Sys2Proof/Laws/PerInstr.lean ====
section
/-! SUPPORT. Sys2Proof/Laws/PerInstr.lean: a law of every instruction, constructor by constructor: an instruction is given
as a command word exactly when it is no bus transaction. -/

namespace Sys2Proof.Laws.PortOrBus

open Sys2Proof

/-- The instruction stands on the command port or on a bus, and the transfer it is says which (41_bus_transport.md
R160: no command word is a bus transaction). -/
def Statement (i : Instr) : Prop :=
  match encode i with
  | .command w => instrTransfer i = none ∧ commandWord i = w
  | .i2c _ _ _ => ∃ x, instrTransfer i = some x ∧ transferInstr x = i
  | .spi tx => frameBytes i = tx ∧ ∃ x, instrTransfer i = some x ∧ transferInstr x = i

theorem i2cRd (a ign : Byte) : Statement (.i2cRd a ign) := ⟨rfl, rfl⟩
theorem i2cWr (a d : Byte) : Statement (.i2cWr a d) := ⟨rfl, rfl⟩
theorem setVaux (mv : Operand) : Statement (.setVaux mv) := ⟨rfl, rfl⟩
theorem setVio (mv : Operand) : Statement (.setVio mv) := ⟨rfl, rfl⟩
theorem setVfpga (ign : BitVec 15) (en : Bool) : Statement (.setVfpga ign en) := ⟨rfl, rfl⟩
theorem flWake (ign : Operand) : Statement (.flWake ign) := ⟨rfl, rfl⟩
theorem flReset (ign : Operand) : Statement (.flReset ign) := ⟨rfl, rfl⟩
theorem flIdent (ign : Operand) : Statement (.flIdent ign) := ⟨rfl, rfl⟩
theorem flErase (ign : Operand) : Statement (.flErase ign) := ⟨rfl, rfl⟩
theorem flBusy (ign : Operand) : Statement (.flBusy ign) := ⟨rfl, rfl⟩
theorem fpgaHold (ign : Operand) : Statement (.fpgaHold ign) := ⟨rfl, rfl⟩
theorem init (ign : Operand) : Statement (.init ign) := ⟨rfl, rfl⟩
theorem reserved0 (ign : Operand) : Statement (.reserved0 ign) := ⟨rfl, rfl⟩
theorem reservedD (ign : Operand) : Statement (.reservedD ign) := ⟨rfl, rfl⟩
theorem reservedE (ign : Operand) : Statement (.reservedE ign) := ⟨rfl, rfl⟩
theorem reservedF (ign : Operand) : Statement (.reservedF ign) := ⟨rfl, rfl⟩
theorem i2cRegWrite (a d : Byte) : Statement (.i2cRegWrite a d) := ⟨_, rfl, rfl⟩
theorem i2cRegRead (a : Byte) : Statement (.i2cRegRead a) := ⟨_, rfl, rfl⟩
theorem spiWake (dc : BitVec 24) : Statement (.spiWake dc) := ⟨rfl, _, rfl, rfl⟩
theorem spiResetEnable : Statement .spiResetEnable := ⟨rfl, _, rfl, rfl⟩
theorem spiResetConfirm : Statement .spiResetConfirm := ⟨rfl, _, rfl, rfl⟩
theorem spiIdentify (dc : BitVec 24) : Statement (.spiIdentify dc) := ⟨rfl, _, rfl, rfl⟩
theorem spiEraseEnable : Statement .spiEraseEnable := ⟨rfl, _, rfl, rfl⟩
theorem spiChipErase : Statement .spiChipErase := ⟨rfl, _, rfl, rfl⟩
theorem spiStatus (dc : Byte) : Statement (.spiStatus dc) := ⟨rfl, _, rfl, rfl⟩

end Sys2Proof.Laws.PortOrBus
end

