-- ==== Sys2Proof/Tests/Slice0.lean ====
section
/-! SUPPORT. Sys2Proof/Tests/Slice0.lean: tests. Expected values come from 95_test_vectors.md (the vector's name is in each
docstring) or from 30_encoding.md's bit layouts written out by hand; then, for every obligation with hypotheses, a state
and operands that meet them (`witness_<the obligation's name>`). -/

namespace Sys2Proof.Tests

open Sys2Proof Sys2Proof.Machine Sys2Proof.Safety

/-! ### Well-formedness: the ill-formed terms are refused -/

/-- 30_encoding.md R109: a wake frame with a don't-care byte other than 0x00 is none of the block's. -/
theorem test_wellformed_wake_refused : WellFormed (.spiWake 1) = false := by decide
/-- 30_encoding.md R109. -/
theorem test_wellformed_identify_refused : WellFormed (.spiIdentify 0x010000) = false := by decide
/-- 30_encoding.md R109. -/
theorem test_wellformed_status_refused : WellFormed (.spiStatus 0xFF) = false := by decide
/-- 30_encoding.md R107, R109. -/
theorem test_wellformed_frames :
    WellFormed (.spiWake 0) = true ∧ WellFormed (.spiIdentify 0) = true ∧ WellFormed (.spiStatus 0) = true := by decide

/-! ### Decoding: words written out from the layouts (30_encoding.md R102 to R107, R117) -/

/-- `0001 aaaaaaaa xxxxxxxx` (V-BUS-3). -/
theorem test_decode_i2c_rd : decodeCommand 0b0001_0011_1001_1010_1011 = .i2cRd 0x39 0xAB := by decide
/-- `0010 aaaaaaaa dddddddd` (V-BUS-4). -/
theorem test_decode_i2c_wr : decodeCommand 0b0010_0011_1001_0000_1110 = .i2cWr 0x39 0x0E := by decide
/-- `0011 m*16` (V-AUX-6). -/
theorem test_decode_set_vaux : decodeCommand 0b0011_0000_1100_1110_0100 = .setVaux 3300 := by decide
/-- `0100 m*16` (V-IO-8). -/
theorem test_decode_set_vio : decodeCommand 0b0100_0000_1011_1011_1000 = .setVio 3000 := by decide
/-- `0101 x*15 e` (V-FP-3, V-FP-4). -/
theorem test_decode_set_vfpga :
    decodeCommand 0b0101_0000_0000_0000_0011 = .setVfpga 1 true ∧
    decodeCommand 0b0101_1111_1111_1111_1110 = .setVfpga 0x7FFF false := by decide
/-- `0110` to `1100`, operand ignored (V-FL-1, V-FL-3, V-FL-5, V-FL-10, V-FL-11, V-FR-4, V-IN-1). -/
theorem test_decode_form_n :
    decodeCommand 0b0110_0000_0000_0000_0000 = .flWake 0 ∧ decodeCommand 0b0111_0000_0000_0000_0000 = .flReset 0 ∧
    decodeCommand 0b1000_0000_0000_0000_0000 = .flIdent 0 ∧ decodeCommand 0b1001_0000_0000_0000_0000 = .flErase 0 ∧
    decodeCommand 0b1010_0000_0000_0000_0000 = .flBusy 0 ∧ decodeCommand 0b1011_1111_1111_1111_1111 = .fpgaHold 0xFFFF ∧
    decodeCommand 0b1100_0000_0000_0000_0000 = .init 0 := by decide
/-- The four reserved opcodes (V-RS-1 to V-RS-4). -/
theorem test_decode_reserved :
    decodeCommand 0b0000_0000_0000_0000_0000 = .reserved0 0 ∧ decodeCommand 0b1101_0000_0000_0000_0000 = .reservedD 0 ∧
    decodeCommand 0b1110_0001_0010_0011_0100 = .reservedE 0x1234 ∧
    decodeCommand 0b1111_1111_1111_1111_1111 = .reservedF 0xFFFF := by decide
/-- Device 1001000: address and data written; address written and one byte read back (R104, R105). -/
theorem test_decode_i2c :
    decode (.i2c 0b1001000 [0b0010_1101, 0b0011_0010] 0) = .ok (.i2cRegWrite 0x2D 0x32) ∧
    decode (.i2c 0b1001000 [0b0001_0100] 1) = .ok (.i2cRegRead 0x14) := by decide
/-- The frames by their opcodes and lengths (R107). -/
theorem test_decode_spi :
    decode (.spi [0b1010_1011, 0, 0, 0]) = .ok (.spiWake 0) ∧ decode (.spi [0b0110_0110]) = .ok .spiResetEnable ∧
    decode (.spi [0b1001_1001]) = .ok .spiResetConfirm ∧ decode (.spi [0b1001_1111, 0, 0, 0]) = .ok (.spiIdentify 0) ∧
    decode (.spi [0b0000_0110]) = .ok .spiEraseEnable ∧ decode (.spi [0b0110_0000]) = .ok .spiChipErase ∧
    decode (.spi [0b0000_0101, 0]) = .ok (.spiStatus 0) := by decide
/-- The false variants of 95_test_vectors.md 2.6: two opcodes in one frame, five bytes, three bytes. -/
theorem test_decode_refused :
    decode (.spi [0x66, 0x99]) = .error .notABlockFrame ∧ decode (.spi [0x06, 0x60]) = .error .notABlockFrame ∧
    decode (.spi [0x9F, 0, 0, 0, 0]) = .error .notABlockFrame ∧ decode (.spi [0x05, 0, 0]) = .error .notABlockFrame ∧
    decode (.i2c 0x49 [0x14] 1) = .error (.otherDevice 0x49) ∧
    decode (.i2c 0x48 [0x14, 0, 0] 0) = .error .notARegisterAccess := by decide
/-- The table's numbering: byte 0 in the low bits (log 20). -/
theorem test_table_words :
    decodeTableWord 24 0x30CE4 = some (.setVaux 3300) ∧ decodeTableWord 24 0x100000 = none ∧
    decodeTableWord 8 0xAB = some (.spiWake 0) ∧ decodeTableWord 16 0x05 = some (.spiStatus 0) ∧
    decodeTableWord 32 0x322D48 = some (.i2cRegWrite 0x2D 0x32) ∧ decodeTableWord 16 0x14C8 = some (.i2cRegRead 0x14) ∧
    decodeTableWord 8 0x07 = none := by decide

/-! ### The voltage encoder (95_test_vectors.md 2.1) -/

/-- The left table. -/
theorem test_enc_vaux :
    encVaux 800 = some 0 ∧ encVaux 824 = some 0 ∧ encVaux 825 = some 1 ∧ encVaux 3460 = some 53 ∧
    encVaux 3475 = some 54 ∧ encVaux 5475 = some 94 ∧ encVaux 5500 = some 94 ∧ encVaux 799 = none ∧
    encVaux 5501 = none ∧ encVaux 0 = none := by decide

/-- The right table. -/
theorem test_enc_vio :
    encVio 800 = some 0 ∧ encVio 812 = some 0 ∧ encVio 813 = some 1 ∧ encVio 3000 = some 88 ∧
    encVio 3447 = some 106 ∧ encVio 3460 = some 106 ∧ encVio 799 = none ∧ encVio 3461 = none := by decide

/-! ### One instruction each -/

/-- An answer that is ok, with these bytes. -/
def ok (a : Byte) (b : Byte := 0) (c : Byte := 0) (d : Byte := 0) : Answer :=
  { ok := true, bytes := { b0 := a, b1 := b, b2 := c, b3 := d } }

/-- An answer that is fail. -/
def no : Answer := { ok := false, bytes := Buf.zero }

/-- From reset, with these answers to come. -/
def fresh (sc : List Answer) : State := { State.reset with script := sc }

/-- As `fresh`, with the I2C bus enabled and the pins set up. -/
def ready (sc : List Answer) : State := { fresh sc with i2cEn := true, cfgRst := .out, cfgDone := .inPullup }

/-- The state the instruction answers. -/
def after (i : Instr) (s : State) : State :=
  match exec i s with
  | .next t => t
  | .fault _ => s
  | .refused _ => s

/-- The events without `Accept` and `Complete`, as 95_test_vectors.md prints them. -/
def events (s : State) : List Event :=
  s.trace.filter (fun e => match e with | .accept _ => false | .complete _ _ _ => false | _ => true)

/-- V-BUS-3. -/
theorem test_i2c_rd :
    let t := after (.i2cRd 0x39 0xAB) (ready [ok 0x0E])
    events t = [.i2cRd 0x39 0x0E] ∧ t.rdata = 0x0E ∧ t.status = .success ∧ t.cmd = 0x139AB := by decide
/-- V-BUS-6. -/
theorem test_i2c_rd_fails :
    let t := after (.i2cRd 0x14 0) { ready [no] with rdata := 0x55, status := .pmicError }
    events t = [.i2cFail .rd 0x14, .fatal .i2c] ∧ t.fatal = true ∧ t.rdata = 0x55 ∧ t.status = .pmicError := by decide
/-- V-BUS-4. -/
theorem test_i2c_wr :
    let t := after (.i2cWr 0x39 0x0E) { ready [ok 0] with rdata := 0x55 }
    events t = [.i2cWr 0x39 0x0E] ∧ t.rdata = 0x55 ∧ Memory.read t.pmicW 0x39 = some 0x0E := by decide
/-- V-BUS-7. -/
theorem test_i2c_wr_fails :
    let t := after (.i2cWr 0x2E 0) { ready [no] with pmicW := [(0x2D, 1), (0x2E, 2)] }
    events t = [.i2cFail .wr 0x2E, .fatal .i2c] ∧ t.pmicW = [(0x2D, 1)] := by decide
/-- 0xFF has the load-switch bit set, whichever it is (95_test_vectors.md 2.3). -/
theorem all_ones_has_mask : (0xFF : Byte) &&& vioLswMask ≠ 0 := by
  have h : ∀ k : Fin 8, (0xFF : Byte) &&& BitVec.twoPow 8 k.val ≠ 0 := by decide
  exact h _

/-- 0x00 has it clear (95_test_vectors.md 2.3). -/
theorem zero_lacks_mask : (0 : Byte) &&& vioLswMask = 0 := BitVec.zero_and

theorem loadSwitchSet_all_ones : loadSwitchSet 0xFF = true := by simpa [loadSwitchSet] using all_ones_has_mask

/-- V-AUX-11: no write after the interlock's read. -/
theorem test_set_vaux_interlock :
    events (after (.setVaux 5000) (ready [ok 0xFF])) = [.i2cRd 0x39 0xFF] ∧
    (after (.setVaux 5000) (ready [ok 0xFF])).status = .invalidSetting := by
  have h : after (.setVaux 5000) (ready [ok 0xFF]) =
      State.andThen (State.runLines (planEnable regVauxTgt regVauxCtl vauxEn (encVaux 5000)))
        (State.micro .checkInterlock
          ((State.accept 0x31388 (planSetVaux 5000) (ready [ok 0xFF])).memRead 0x39)) := rfl
  have hs : ((State.accept 0x31388 (planSetVaux 5000) (ready [ok 0xFF])).memRead 0x39).ret = 0xFF := by rfl
  rw [h, State.micro, hs, loadSwitchSet_all_ones]
  exact ⟨rfl, rfl⟩
/-- V-AUX-6. -/
theorem test_set_vaux :
    events (after (.setVaux 3300) (ready [ok 0, ok 0])) = [.i2cWr 0x2D 0x32, .i2cWr 0x2E vauxEn] := by rfl
/-- V-IO-8, the source's example T9. -/
theorem test_set_vio :
    events (after (.setVio 3000) (ready [ok 0, ok 0])) = [.i2cWr 0x38 0x58, .i2cWr 0x39 0x0E] := by decide
/-- V-IO-12. -/
theorem test_set_vio_range :
    events (after (.setVio 5000) (ready [])) = [] ∧ (after (.setVio 5000) (ready [])).status = .invalidSetting := by
  decide
/-- V-FP-3. -/
theorem test_set_vfpga_on :
    events (after (.setVfpga 1 true) (ready [ok 0, ok 0])) = [.i2cWr 0x2B vfpgaTgt, .i2cWr 0x2C vfpgaEn] := by rfl
/-- V-FP-6. -/
theorem test_set_vfpga_off_fails :
    events (after (.setVfpga 0 false) (ready [ok 0, ok 0, no])) =
      [.i2cWr 0x2B vfpgaTgt, .i2cWr 0x39 vioDis, .i2cFail .wr 0x2C, .fatal .i2c] := by rfl
/-- V-FL-1. -/
theorem test_fl_wake :
    events (after (.flWake 0) (fresh [ok 1 2 3 4])) = [.spiInit, .spiFrame [0xAB, 0, 0, 0] [1, 2, 3, 4], .delay 3] := by
  decide
/-- V-FL-17. -/
theorem test_fl_wake_fails :
    let t := after (.flWake 0) (fresh [no])
    events t = [.spiInit, .spiFail [0xAB, 0, 0, 0], .fatal .spi] ∧ t.spiInit = true := by decide
/-- V-FL-3, after an earlier frame; T6. -/
theorem test_fl_reset :
    events (after (.flReset 0) { fresh [ok 7, ok 8] with spiInit := true }) =
      [.spiFrame [0x66] [7], .spiFrame [0x99] [8], .delay 30] := by decide
/-- V-FL-4. -/
theorem test_fl_reset_fails :
    events (after (.flReset 0) (fresh [ok 7, no])) =
      [.spiInit, .spiFrame [0x66] [7], .spiFail [0x99], .fatal .spi] := by decide
/-- V-FL-5, V-FL-8. -/
theorem test_fl_ident :
    (after (.flIdent 0) (fresh [ok 0xFF 0xEF 0x40 0x16])).status = .success ∧
    (after (.flIdent 0) (fresh [ok 0 0 0 0x16])).status = .success := by decide
/-- V-FL-6, V-FL-7; T5. -/
theorem test_fl_ident_error :
    (after (.flIdent 0) (fresh [ok 0])).status = .flashError ∧
    (after (.flIdent 0) (fresh [ok 0x16 0x16 0x16 0x17])).status = .flashError := by decide
/-- V-FL-10: two frames, no delay. -/
theorem test_fl_erase :
    events (after (.flErase 0) (fresh [ok 7, ok 8])) = [.spiInit, .spiFrame [0x06] [7], .spiFrame [0x60] [8]] := by
  decide
/-- V-FL-13, V-FL-16. -/
theorem test_fl_busy :
    (after (.flBusy 0) (fresh [ok 0 0x03])).rdata = 1 ∧ (after (.flBusy 0) (fresh [ok 0 0xFF])).rdata = 1 := by decide
/-- V-FL-14, V-FL-15. -/
theorem test_fl_not_busy :
    (after (.flBusy 0) (fresh [ok 0 0xFE])).rdata = 0 ∧
    (after (.flBusy 0) { fresh [ok 1 0] with rdata := 9 }).rdata = 0 := by decide
/-- V-FR-2, V-FR-3. -/
theorem test_fpga_hold :
    (after (.fpgaHold 0) { ready [] with pinRst := true }).fpgaRstN = some false ∧
    (after (.fpgaHold 0) (fresh [])).fpgaRstN = none ∧ events (after (.fpgaHold 0) (fresh [])) = [.pinSet false] := by
  decide
/-- V-IN-1, V-IN-5. -/
theorem test_init :
    events (after (.init 0) (fresh [ok 0x7A])) =
      [.pinCfgRst .out, .pinCfgDone .inPullup, .i2cInit, .i2cRd 0x14 0x7A] ∧
    (after (.init 0) { ready [ok 0x7A] with pinRst := true }).pinRst = true := by decide
/-- V-IN-3, V-IN-4. -/
theorem test_init_error :
    (after (.init 0) (fresh [ok 0])).status = .pmicError ∧ (after (.init 0) (fresh [no])).fatal = true ∧
    (after (.init 0) (fresh [no])).i2cEn = true := by decide
/-- V-RS-1 to V-RS-4: nothing but the result. -/
theorem test_reserved :
    (after (.reserved0 0) (fresh [])).status = .invalidSetting ∧ events (after (.reservedD 0) (fresh [])) = [] ∧
    (after (.reservedE 0x1234) (fresh [])).cmd = 0xE1234 ∧ (after (.reservedF 0) (fresh [])).rspValid = true := by
  decide
/-- 41_bus_transport.md R150, R151. -/
theorem test_i2c_transactions :
    (after (.i2cRegWrite 0x2D 0x32) (ready [ok 0])).trace = [.i2cWr 0x2D 0x32] ∧
    (after (.i2cRegRead 0x14) (ready [ok 0x7A])).trace = [.i2cRd 0x14 0x7A] := by decide
/-- 41_bus_transport.md R152; 10_state.md R41: bytes beyond the frame's length keep their values. -/
theorem test_spi_frames :
    (after (.spiStatus 0) (fresh [ok 1 2 3 4])).trace = [.spiInit, .spiFrame [0x05, 0] [1, 2]] ∧
    (after (.spiStatus 0) { fresh [ok 1 2 3 4] with rx := ⟨9, 9, 9, 9⟩ }).rx = ⟨1, 2, 9, 9⟩ ∧
    (after .spiResetEnable { fresh [ok 1] with spiInit := true }).trace = [.spiFrame [0x66] [1]] ∧
    (after .spiResetConfirm { fresh [ok 1] with spiInit := true }).trace = [.spiFrame [0x99] [1]] ∧
    (after .spiEraseEnable { fresh [ok 1] with spiInit := true }).trace = [.spiFrame [0x06] [1]] ∧
    (after .spiChipErase { fresh [ok 1] with spiInit := true }).trace = [.spiFrame [0x60] [1]] := by decide
/-- 30_encoding.md R107: the four-byte frames. -/
theorem test_spi_long_frames :
    (after (.spiWake 0) (fresh [ok 1 2 3 4])).trace = [.spiInit, .spiFrame [0xAB, 0, 0, 0] [1, 2, 3, 4]] ∧
    (after (.spiIdentify 0) (fresh [ok 1 2 3 4])).trace = [.spiInit, .spiFrame [0x9F, 0, 0, 0] [1, 2, 3, 4]] := by decide

/-! ### Steps -/

/-- V-RS-5: nothing is accepted in `FATAL`. -/
theorem test_step_fatal :
    step { fresh [] with seq := .fatal, inputs := [.command 0xB0000] } =
      .next { fresh [] with seq := .fatal, inputs := [.command 0xB0000] } := by rfl
/-- An instruction placed by its table word is the one the next step runs. -/
theorem test_step_placed :
    step (State.reset.withFetchWord 24 0x60000) = exec (.flWake 0) State.reset ∧
    step (State.reset.withFetchWord 16 0x14C8) = exec (.i2cRegRead 0x14) (State.reset.withFetchWord 16 0x14C8) := by
  exact ⟨rfl, rfl⟩

/-! ### Witnesses: what meets each obligation's hypotheses -/

theorem witness_DecodeEncodeInverse : WellFormed (.i2cWr 0xFF 0x00) = true ∧ WellFormed (.spiWake 0) = true := by decide

theorem witness_EncodeDecodeInverse :
    decode (.command 0xFFFFF) = .ok (.reservedF 0xFFFF) ∧ decode (.i2c 0x48 [0xFF, 0x00] 0) = .ok (.i2cRegWrite 0xFF 0) ∧
    decode (.spi [0x05, 0xFF]) = .ok (.spiStatus 0xFF) := by decide

theorem witness_OnlyPmicAddressed :
    encode (.i2cRegWrite 0x14 0) = .i2c 0x48 [0x14, 0] 0 ∧ (0x49 : DeviceAddr) ≠ 0x48 := by decide

theorem witness_FlashOpcodesClosed :
    (0x04 : Byte) ∉ ([0xAB, 0x66, 0x99, 0x9F, 0x06, 0x60, 0x05] : List Byte) := by decide

theorem witness_EncoderMonotone :
    ((4 / 5 : Rat) ≤ 4 / 5 ∧ (4 / 5 : Rat) ≤ 11 / 2 ∧ (11 / 2 : Rat) ≤ 11 / 2) ∧
    ((4 / 5 : Rat) ≤ 4 / 5 ∧ (4 / 5 : Rat) ≤ 173 / 50 ∧ (173 / 50 : Rat) ≤ 173 / 50) := by norm_num

/-- The two ends of each range (95_test_vectors.md 2.1). -/
theorem witness_EncoderCodeIntervals :
    encVaux 800 = some 0 ∧ encVaux 5500 = some 94 ∧ encVio 800 = some 0 ∧ encVio 3460 = some 106 := by decide

theorem witness_StepRunsOfferedCommand :
    (State.reset.placed (.init 0)).rst = false ∧ (State.reset.placed (.init 0)).seq = .idle ∧
    (State.reset.placed (.init 0)).inputs = .command 0xC0000 :: [] := by decide

theorem witness_StepRunsTransaction :
    (State.reset.placed (.spiWake 0)).rst = false ∧
    (State.reset.placed (.spiWake 0)).seq = .run 0 (.xfer (.wake 0) :: [.complete .success]) := by decide

theorem witness_StepOfIdleBlock :
    ({ State.reset with inputs := [.pinWrite true] }.rst = false ∧ { State.reset with inputs := [.pinWrite true] }.seq = .idle ∧
      { State.reset with inputs := [.pinWrite true] }.inputs = .pinWrite true :: []) ∧
    (State.reset.rst = false ∧ State.reset.seq = .idle ∧ State.reset.inputs = []) := by decide

theorem witness_OnlyResetLeavesFatal :
    ({ State.reset with seq := .fatal }.rst = false ∧ { State.reset with seq := .fatal }.seq = .fatal) ∧
    { State.reset with seq := .fatal, rst := true }.rst = true := by decide

theorem witness_CommandNeedsIdle : IsCommand (.fpgaHold 0) ∧ { State.reset with seq := .fatal }.seq ≠ .idle :=
  ⟨rfl, by decide⟩

theorem witness_CommandIsItsMicroSteps :
    planOf (.flReset 0) = some planFlReset ∧ (fresh [ok 0]).rst = false ∧ (fresh [ok 0]).seq = .idle := by decide

/-- After `INIT`, inside `SET_VIO 1800` (95_test_vectors.md 2.4), with the target written and the control register to
come. -/
def midVio : State :=
  ((after (.init 0) (fresh [ok 0x7A, ok 0, ok 0])).accept 0x40708 (planSetVio 1800)).memWrite 0x38 0x28

/-- Inside the first `FL_RESET`, with the first frame sent. -/
def midReset : State := ((fresh [ok 7, ok 8]).accept 0x70000 planFlReset).spiXfer [0x66]

theorem midVio_pmicW : midVio.pmicW = [(0x38, 0x28)] := by decide

theorem midVio_seq : midVio.seq = .run 1 [.xfer (.regWrite 0x39 0x0E), .complete .success] := by decide

theorem midReset_seq : midReset.seq = .run 2 [.xfer .resetConfirm, .delay 30, .wait, .complete .success] := by decide

theorem witness_GhostPmicKept : GhostPmic midVio ∧ ∃ t, step midVio = .next t := ⟨⟨by decide, by decide⟩, _, rfl⟩

theorem witness_TraceProtocolKept : TraceProtocol midVio ∧ ∃ t, step midVio = .next t :=
  ⟨show phaseFrom _ _ = _ by decide, _, rfl⟩

theorem witness_BringUpFlagsKept : BringUpFlags midVio ∧ ∃ t, step midVio = .next t :=
  ⟨⟨by decide, by decide, by decide, by decide⟩, _, rfl⟩

theorem witness_LatchAndLengthKept : LatchAndLength midReset ∧ ∃ t, step midReset = .next t :=
  ⟨⟨by decide, by decide, by decide⟩, _, rfl⟩

theorem witness_DelayCounterKept : DelayCounter midReset ∧ ∃ t, step midReset = .next t := by
  refine ⟨⟨.inl (by decide), fun k todo h => ?_⟩, _, rfl⟩
  rw [midReset_seq] at h
  cases h
  decide

/-- A delay to load, and a wait, in a command in progress. -/
theorem witness_DelayCounterKept_counts :
    ({ midReset with seq := .run 3 [.delay 30, .wait, .complete .success] }.rst = false ∧
      { midReset with seq := .run 3 [.delay 30, .wait, .complete .success] }.seq =
        .run 3 (.delay 30 :: [.wait, .complete .success])) ∧
    ({ midReset with seq := .run 3 [.wait, .complete .success], dly := 1 }.rst = false ∧
      { midReset with seq := .run 3 [.wait, .complete .success], dly := 1 }.seq =
        .run 3 (.wait :: [.complete .success])) := by decide

theorem midReset_onPlan : OnPlan midReset := by
  intro k todo h
  rw [midReset_seq] at h
  cases h
  exact ⟨planFlReset, by decide, by decide⟩

theorem witness_RunBoundedKept : RunBounded midReset ∧ ∃ t, step midReset = .next t := by
  refine ⟨⟨midReset_onPlan, fun k todo h => ?_⟩, _, rfl⟩
  rw [midReset_seq] at h
  cases h
  exact ⟨by decide, by decide⟩

theorem midReset_trace : midReset.trace = [.accept 0x70000, .spiInit, .spiFrame [0x66] [7]] := by decide

theorem midReset_spaced : SpacedTrace midReset.trace := by
  intro pre e e' post m h hd
  rw [midReset_trace] at h
  rcases pre with _ | ⟨a, _ | ⟨b, _ | ⟨c, rest⟩⟩⟩ <;> simp at h
  · obtain ⟨rfl, -⟩ := h
    cases hd
  · obtain ⟨-, rfl, -⟩ := h
    cases hd

theorem witness_FlashSpacingKept : FlashSpacing midReset ∧ ∃ t, step midReset = .next t := by
  refine ⟨⟨midReset_spaced, fun e m he hd => ?_, fun h => absurd h (by decide), midReset_onPlan⟩, _, rfl⟩
  rw [midReset_trace] at he
  cases he
  cases hd
  exact ⟨2, _, midReset_seq⟩

/-- Idle after a first `INIT`, with a trace. -/
def brought : State := after (.init 0) (fresh [ok 0x7A, ok 0, ok 0])

theorem brought_seq : brought.seq = .idle := by decide

theorem brought_onPlan : OnPlan brought := by
  intro k todo h
  rw [brought_seq] at h
  cases h

theorem brought_spaced : SpacedTrace brought.trace := by
  have hnone : ∀ e ∈ brought.trace, dueAfter e = none := by decide
  intro pre e e' post m h hd
  rw [hnone e (by rw [h]; simp)] at hd
  cases hd

/-- What acceptance needs (`KeptByAcceptance`), of a command with four micro-steps. -/
theorem witness_acceptance :
    brought.seq = .idle ∧ planOf (.flReset 0) = some planFlReset ∧ GhostPmic brought ∧ TraceProtocol brought ∧
    BringUpFlags brought ∧ LatchAndLength brought ∧ DelayCounter brought ∧ RunBounded brought ∧ FlashSpacing brought := by
  refine ⟨brought_seq, rfl, ⟨by decide, by decide⟩, show phaseFrom _ _ = _ by decide,
    ⟨by decide, by decide, by decide, by decide⟩, ⟨by decide, by decide, by decide⟩, ⟨.inl (by decide), ?_⟩,
    ⟨brought_onPlan, ?_⟩, brought_spaced, ?_, ?_, brought_onPlan⟩
  · intro k todo h
    rw [brought_seq] at h
    cases h
  · intro k todo h
    rw [brought_seq] at h
    cases h
  · intro e m he hd
    have hnone : ∀ e ∈ brought.trace, dueAfter e = none := by decide
    rw [hnone e (List.mem_of_getLast? he)] at hd
    cases hd
  · intro _ tx rx h
    have hno : ∀ e ∈ brought.trace, (match e with | .spiFrame _ _ => false | _ => true) = true := by decide
    exact absurd (hno _ h) (by simp)

theorem witness_HistoryKept : midVio.rst = false ∧ ∃ t, step midVio = .next t := ⟨by decide, _, rfl⟩

theorem witness_CommandReach : IsCommand (.setVio 1800) ∧ ∃ t, exec (.setVio 1800) (ready [ok 0, no]) = .next t :=
  ⟨rfl, _, rfl⟩

/-- A command outside every exception of the frame, and one inside each. -/
theorem witness_CommandFrame :
    (IsCommand (.reserved0 0) ∧ ∃ t, exec (.reserved0 0) (fresh []) = .next t) ∧ (∀ g, Instr.reserved0 0 ≠ .init g) ∧
    (∀ g, Instr.reserved0 0 ≠ .fpgaHold g) ∧ (∀ a g, Instr.reserved0 0 ≠ .i2cRd a g) ∧
    (∀ g, Instr.reserved0 0 ≠ .flBusy g) ∧ ¬ IsFlashCommand (.reserved0 0) :=
  ⟨⟨rfl, _, rfl⟩, by simp, by simp, by simp, by simp, by simp [IsFlashCommand]⟩

theorem witness_MemoryFrame :
    (∃ t, exec (.setVfpga 0 true) (ready [ok 0, ok 0]) = .next t) ∧ (0x39 : Byte) ∉ storedRegs (.setVfpga 0 true) :=
  ⟨⟨_, rfl⟩, by decide⟩

theorem witness_I2cRdResult :
    (ready [ok 0x7A]).seq = .idle ∧ (ready [ok 0x7A]).i2cEn = true ∧ ((ready [ok 0x7A]).answer 0).ok = true := by decide

theorem witness_I2cWrResult :
    (ready [ok 0]).seq = .idle ∧ (ready [ok 0]).i2cEn = true ∧ ((ready [ok 0]).answer 0).ok = true := by decide

/-- A state that meets the state hypotheses of both clauses, and the two ends of the second's range. -/
theorem witness_SetVauxWithoutInterlock :
    ((ready [ok 0, ok 0]).seq = .idle ∧ (ready [ok 0, ok 0]).i2cEn = true ∧ ((ready [ok 0, ok 0]).answer 0).ok = true ∧
      ((ready [ok 0, ok 0]).answer 1).ok = true) ∧
    (800 ≤ (800 : Operand).toNat ∧ (800 : Operand).toNat ≤ 3460) ∧
    (800 ≤ (3460 : Operand).toNat ∧ (3460 : Operand).toNat ≤ 3460) := by decide

/-- The two ends of the range; with c = 0x00 the first clause (V-AUX-12), with c = 0xFF the second (V-AUX-11). -/
theorem witness_SetVauxInterlock :
    (3461 ≤ (3461 : Operand).toNat ∧ (3461 : Operand).toNat ≤ 5500) ∧
    (3461 ≤ (5500 : Operand).toNat ∧ (5500 : Operand).toNat ≤ 5500) ∧
    ((ready [ok 0, ok 0, ok 0]).seq = .idle ∧ (ready [ok 0, ok 0, ok 0]).i2cEn = true ∧
      ((ready [ok 0, ok 0, ok 0]).answer 0).ok = true ∧ ((ready [ok 0, ok 0, ok 0]).answer 0).bytes.b0 &&& vioLswMask = 0 ∧
      ((ready [ok 0, ok 0, ok 0]).answer 1).ok = true ∧ ((ready [ok 0, ok 0, ok 0]).answer 2).ok = true) ∧
    ((ready [ok 0xFF]).seq = .idle ∧ (ready [ok 0xFF]).i2cEn = true ∧ ((ready [ok 0xFF]).answer 0).ok = true ∧
      ((ready [ok 0xFF]).answer 0).bytes.b0 &&& vioLswMask ≠ 0) :=
  ⟨by decide, by decide, ⟨by decide, by decide, by decide, zero_lacks_mask, by decide, by decide⟩,
    by decide, by decide, by decide, all_ones_has_mask⟩

theorem witness_SetVioResult :
    ((ready [ok 0, ok 0]).seq = .idle ∧ (ready [ok 0, ok 0]).i2cEn = true ∧ ((ready [ok 0, ok 0]).answer 0).ok = true ∧
      ((ready [ok 0, ok 0]).answer 1).ok = true) ∧
    (800 ≤ (800 : Operand).toNat ∧ (800 : Operand).toNat ≤ 3460) ∧
    (800 ≤ (3460 : Operand).toNat ∧ (3460 : Operand).toNat ≤ 3460) := by decide

/-- Both sides of both ranges, at their ends. -/
theorem witness_RangeRejects :
    ((1 : Operand).toNat ≠ 0 ∧ (799 : Operand).toNat ≤ 799) ∧ ((5501 : Operand).toNat ≠ 0 ∧ 5501 ≤ (5501 : Operand).toNat) ∧
    ((3461 : Operand).toNat ≠ 0 ∧ 3461 ≤ (3461 : Operand).toNat) ∧ (fresh []).seq = .idle := by decide

theorem witness_SetVfpgaResult :
    (ready [ok 0, ok 0, ok 0]).seq = .idle ∧ (ready [ok 0, ok 0, ok 0]).i2cEn = true ∧
    ((ready [ok 0, ok 0, ok 0]).answer 0).ok = true ∧ ((ready [ok 0, ok 0, ok 0]).answer 1).ok = true ∧
    ((ready [ok 0, ok 0, ok 0]).answer 2).ok = true := by decide

/-- For every conjunction, the trace the state's own command adds. -/
theorem witness_VioOffBeforeVfpgaOff :
    ∃ t, exec (.setVfpga 0 false) (ready [ok 0, ok 0, ok 0]) = .next t ∧
      t.trace = (ready [ok 0, ok 0, ok 0]).trace ++
        ([.accept 0x50000, .i2cWr 0x2B vfpgaTgt, .i2cWr 0x39 vioDis] ++
          .i2cWr 0x2C vfpgaDis :: [.complete 0x50000 .success 0]) := ⟨_, rfl, rfl⟩

theorem witness_RailTransitions :
    IsCommand (.setVfpga 0 false) ∧ (∀ a d, Instr.setVfpga 0 false = .i2cWr a d → a ∉ railRegisters) ∧
    (ready [ok 0, ok 0, ok 0]).seq = .idle ∧
    exec (.setVfpga 0 false) (ready [ok 0, ok 0, ok 0]) = .next (after (.setVfpga 0 false) (ready [ok 0, ok 0, ok 0])) ∧
    (after (.setVfpga 0 false) (ready [ok 0, ok 0, ok 0])).seq = .idle := ⟨rfl, by simp, by decide, rfl, rfl⟩

/-- The second clause: the core rail switched on. -/
theorem witness_RailTransitions_core :
    (ready [ok 0, ok 0]).seq = .idle ∧
    exec (.setVfpga 0 true) (ready [ok 0, ok 0]) = .next (after (.setVfpga 0 true) (ready [ok 0, ok 0])) ∧
    (after (.setVfpga 0 true) (ready [ok 0, ok 0])).seq = .idle := ⟨by decide, rfl, rfl⟩

theorem witness_FlWakeResult : (fresh [ok 1]).seq = .idle ∧ ((fresh [ok 1]).answer 0).ok = true := by decide

theorem witness_FlResetResult :
    (fresh [ok 1, ok 2]).seq = .idle ∧ ((fresh [ok 1, ok 2]).answer 0).ok = true ∧
    ((fresh [ok 1, ok 2]).answer 1).ok = true := by decide

theorem witness_FlIdentResult :
    (fresh [ok 0 0 0 0x16]).seq = .idle ∧ ((fresh [ok 0 0 0 0x16]).answer 0).ok = true := by decide

theorem witness_FlEraseResult :
    (fresh [ok 1, ok 2]).seq = .idle ∧ ((fresh [ok 1, ok 2]).answer 0).ok = true ∧
    ((fresh [ok 1, ok 2]).answer 1).ok = true := by decide

theorem witness_FlBusyResult : (fresh [ok 0 1]).seq = .idle ∧ ((fresh [ok 0 1]).answer 0).ok = true := by decide

theorem witness_FpgaHoldResult : { fresh [] with pinRst := true }.seq = .idle := by decide

theorem witness_InitResult : (fresh [ok 0x7A]).seq = .idle ∧ ((fresh [ok 0x7A]).answer 0).ok = true := by decide

theorem witness_ReservedResult : IsReserved (.reservedF 0xFFFF) ∧ (fresh []).seq = .idle :=
  ⟨.inr (.inr (.inr ⟨_, rfl⟩)), by decide⟩

theorem witness_I2cTransactionResult :
    (ready [ok 0x7A]).i2cEn = true ∧ ((ready [ok 0x7A]).answer 0).ok = true := by decide

theorem witness_SpiFrameResult :
    (Instr.spiStatus 0, ([0x05, 0] : List Byte)) ∈ ([(.spiWake 0, 0xAB :: dcBytes 0), (.spiResetEnable, [0x66]),
      (.spiResetConfirm, [0x99]), (.spiIdentify 0, 0x9F :: dcBytes 0), (.spiEraseEnable, [0x06]), (.spiChipErase, [0x60]),
      (.spiStatus 0, [0x05, 0])] : List (Instr × List Byte)) ∧ ((fresh [ok 1]).answer 0).ok = true := by decide

theorem witness_TransferFailureAborts :
    ((ready [no]).i2cEn = true ∧ ((ready [no]).answer 0).ok = false) ∧ (fresh []).i2cEn = false ∧
    (encode (.spiWake 0) = .spi [0xAB, 0, 0, 0] ∧ ((fresh [no]).answer 0).ok = false) := by decide

/-- The places a transfer can fail at, in a state each, and the ends of the two ranges. -/
theorem witness_RailTransfersCutShort :
    ((ready [no]).seq = .idle ∧ (ready [no]).i2cEn = true ∧ ((ready [no]).answer 0).ok = false) ∧
    ((ready [ok 0, no]).seq = .idle ∧ (ready [ok 0, no]).i2cEn = true ∧ ((ready [ok 0, no]).answer 0).ok = true ∧
      ((ready [ok 0, no]).answer 0).bytes.b0 &&& vioLswMask = 0 ∧ ((ready [ok 0, no]).answer 1).ok = false) ∧
    ((ready [ok 0, ok 0, no]).seq = .idle ∧ (ready [ok 0, ok 0, no]).i2cEn = true ∧
      ((ready [ok 0, ok 0, no]).answer 0).ok = true ∧ ((ready [ok 0, ok 0, no]).answer 0).bytes.b0 &&& vioLswMask = 0 ∧
      ((ready [ok 0, ok 0, no]).answer 1).ok = true ∧ ((ready [ok 0, ok 0, no]).answer 2).ok = false) ∧
    (800 ≤ (800 : Operand).toNat ∧ (800 : Operand).toNat ≤ 3460) ∧
    (800 ≤ (3460 : Operand).toNat ∧ (3460 : Operand).toNat ≤ 3460) ∧
    (3461 ≤ (3461 : Operand).toNat ∧ (3461 : Operand).toNat ≤ 5500) ∧
    (3461 ≤ (5500 : Operand).toNat ∧ (5500 : Operand).toNat ≤ 5500) :=
  ⟨by decide, ⟨by decide, by decide, by decide, zero_lacks_mask, by decide⟩,
    ⟨by decide, by decide, by decide, zero_lacks_mask, by decide, by decide⟩, by decide, by decide, by decide, by decide⟩

theorem witness_OtherTransfersCutShort :
    ((ready [no]).seq = .idle ∧ (ready [no]).i2cEn = true ∧ ((ready [no]).answer 0).ok = false) ∧
    ((fresh [no]).seq = .idle ∧ ((fresh [no]).answer 0).ok = false) ∧
    (Instr.flBusy 0, ([0x05, 0] : List Byte)) ∈ ([(.flWake 0, [0xAB, 0, 0, 0]), (.flReset 0, [0x66]),
      (.flIdent 0, [0x9F, 0, 0, 0]), (.flErase 0, [0x06]), (.flBusy 0, [0x05, 0])] : List (Instr × List Byte)) ∧
    ((fresh [ok 1, no]).seq = .idle ∧ ((fresh [ok 1, no]).answer 0).ok = true ∧
      ((fresh [ok 1, no]).answer 1).ok = false) := by decide

/-- The I2C commands at the ends of the ranges that choose their first access (R264). -/
theorem witness_I2cBeforeInitAborts :
    firstAccessFailure (.init 0) = none ∧ firstAccessFailure (.setVaux 0) = some (.i2cFail .wr 0x2E) ∧
    firstAccessFailure (.setVaux 3460) = some (.i2cFail .wr 0x2D) ∧
    firstAccessFailure (.setVaux 3461) = some (.i2cFail .rd 0x39) ∧ firstAccessFailure (.setVaux 5501) = none ∧
    firstAccessFailure (.setVio 3460) = some (.i2cFail .wr 0x38) ∧ firstAccessFailure (.setVio 3461) = none ∧
    (fresh []).seq = .idle ∧ (fresh []).i2cEn = false := by decide

theorem witness_AbortKeepsResults :
    IsCommand (.flBusy 0) ∧ (fresh [no]).seq = .idle ∧
    exec (.flBusy 0) (fresh [no]) = .next (after (.flBusy 0) (fresh [no])) ∧
    (after (.flBusy 0) (fresh [no])).seq = .fatal := ⟨rfl, by decide, rfl, by decide⟩

theorem witness_ResultCodesClosed :
    IsCommand (.flIdent 0) ∧ (fresh [ok 0]).seq = .idle ∧
    exec (.flIdent 0) (fresh [ok 0]) = .next (after (.flIdent 0) (fresh [ok 0])) := ⟨rfl, by decide, rfl⟩

/-- The hypotheses, and each of the four causes of R272 at a boundary operand. -/
theorem witness_InvalidSettingCauses :
    IsCommand (.setVaux 5500) ∧ (ready [ok 0xFF]).seq = .idle ∧ (∃ t, exec (.setVaux 5500) (ready [ok 0xFF]) = .next t) ∧
    InvalidSettingCause (.setVaux 799) (fresh []) ∧ InvalidSettingCause (.setVaux 5500) (ready [ok 0xFF]) ∧
    InvalidSettingCause (.setVio 3461) (fresh []) ∧ InvalidSettingCause (.reserved0 0) (fresh []) :=
  ⟨rfl, by decide, ⟨_, rfl⟩, .inl ⟨_, rfl, by decide, by decide⟩,
    .inr (.inl ⟨_, rfl, by decide, by decide, by decide, by decide, all_ones_has_mask⟩),
    .inr (.inr (.inl ⟨_, rfl, by decide, by decide⟩)), .inr (.inr (.inr (.inl ⟨_, rfl⟩)))⟩

theorem witness_IdentityErrorCauses :
    IsCommand (.init 0) ∧ (fresh [ok 0]).seq = .idle ∧
    exec (.init 0) (fresh [ok 0]) = .next (after (.init 0) (fresh [ok 0])) ∧
    (after (.init 0) (fresh [ok 0])).status = .pmicError ∧ (after (.init 0) (fresh [ok 0])).seq = .idle :=
  ⟨rfl, by decide, rfl, by decide, by decide⟩

theorem witness_NoCommandReleasesReset :
    (∃ t, exec (.fpgaHold 0) { fresh [] with pinRst := true } = .next t ∧
      t.trace = (fresh []).trace ++ [.accept 0xB0000, .pinSet false, .complete 0xB0000 .success 0]) ∧
    (step { fresh [] with inputs := [.pinWrite true] } =
        .next { fresh [] with pinRst := true, trace := [.pinSet true] } ∧
      { fresh [] with inputs := [.pinWrite true] }.pinRst = false) := ⟨⟨_, rfl, rfl⟩, rfl, rfl⟩

theorem witness_FlashIndependentOfI2c :
    (IsFlashCommand (.flErase 0) ∧ ∃ t, exec (.flErase 0) (fresh [ok 0, ok 0]) = .next t) ∧
    (∃ tx, encode .spiChipErase = .spi tx) ∧ ∃ t, exec (.init 0) (fresh [no]) = .next t :=
  ⟨⟨.inr (.inr (.inr (.inl ⟨_, rfl⟩))), _, rfl⟩, ⟨_, rfl⟩, _, rfl⟩

/-- From a first `INIT` (V-IN-1), so that the trace says the bus is enabled. -/
def readBackStart : State := after (.init 0) (fresh [ok 0x7A, ok 0, ok 0x0E])

theorem witness_RegFileReadBack :
    readBackStart.seq = .idle ∧ exec (.i2cWr 0x39 0x0E) readBackStart = .next (after (.i2cWr 0x39 0x0E) readBackStart) ∧
    (after (.i2cWr 0x39 0x0E) readBackStart).seq = .idle ∧
    exec (.i2cRd 0x39 0) (after (.i2cWr 0x39 0x0E) readBackStart) =
      .next (after (.i2cRd 0x39 0) (after (.i2cWr 0x39 0x0E) readBackStart)) ∧
    (after (.i2cRd 0x39 0) (after (.i2cWr 0x39 0x0E) readBackStart)).seq = .idle ∧
    PmicRegFile (fun _ => 0x7A) false (after (.i2cRd 0x39 0) (after (.i2cWr 0x39 0x0E) readBackStart)).trace := by
  refine ⟨by decide, rfl, by decide, rfl, by decide, ?_⟩
  have h : (after (.i2cRd 0x39 0) (after (.i2cWr 0x39 0x0E) readBackStart)).trace =
      [.accept 0xC0000, .pinCfgRst .out, .pinCfgDone .inPullup, .i2cInit, .i2cRd 0x14 0x7A,
       .complete 0xC0000 .success 0, .accept 0x2390E, .i2cWr 0x39 0x0E, .complete 0x2390E .success 0, .accept 0x13900,
       .i2cRd 0x39 0x0E, .complete 0x13900 .success 0x0E] := by decide
  rw [h]
  simp [PmicRegFile]

/-- The first poll of the source's example T10. -/
theorem witness_ScriptedBusyPoll :
    (fresh [ok 0 1]).seq = .idle ∧ exec (.flBusy 0) (fresh [ok 0 1]) = .next (after (.flBusy 0) (fresh [ok 0 1])) ∧
    FlashScript [[0, 1]] (after (.flBusy 0) (fresh [ok 0 1])).trace ∧
    ([[0, 1]] : List (List Byte))[frameCount (fresh [ok 0 1]).trace]? = some [0, 1] := by
  refine ⟨by decide, rfl, ?_, by decide⟩
  have h : (after (.flBusy 0) (fresh [ok 0 1])).trace =
      [.accept 0xA0000, .spiInit, .spiFrame [0x05, 0] [0, 1], .complete 0xA0000 .success 1] := by decide
  rw [h]
  simp [FlashScript]

end Sys2Proof.Tests
end

/-! ## Proofs of the family 00_scope.md: the step inside a command (O11) and the rails (O38) -/

namespace Sys2Proof.Machine

open Sys2Proof.Safety

/-! ### The turn inside a command -/

/-- A block whose next line is a bus transaction takes that transaction's row (10_state.md R26). -/
theorem State.turn_xfer (s : State) (k : Nat) (x : Transfer) (rest : List Micro) (hrst : s.rst = false)
    (hseq : s.seq = .run k (.xfer x :: rest)) : s.turn = .run (transferInstr x) { s with rspValid := false } := by
  simp [State.turn, hrst, hseq, State.runTurn]

/-- A step whose turn is an instruction is its meaning. -/
theorem step_of_turn_run {s t : State} {i : Instr} (h : s.turn = .run i t) : step s = exec i t := by
  simp [step, h]

/-! ### Reading `pmic_w` after a write -/

theorem Memory.lookup_insert (m : Memory) (a b : Nat) (d : Byte) :
    Memory.lookup (Memory.insert m a d) b = if b = a then some d else Memory.lookup m b := by
  induction m with
  | nil => rfl
  | cons e rest ih =>
    obtain ⟨k, v⟩ := e
    simp only [Memory.insert]
    split
    next => rfl
    next =>
      split
      next hak => subst hak; simp only [Memory.lookup]; split <;> rfl
      next hak =>
        simp only [Memory.lookup, ih]
        split
        next hbk => subst hbk; exact (if_neg (Ne.symm hak)).symm
        next => rfl

/-- Read after write (42_pmic_rails.md R196). -/
theorem Memory.read_write (m : Memory) (a b d : Byte) :
    Memory.read (Memory.write m a d) b = if b = a then some d else Memory.read m b := by
  simp only [Memory.read, Memory.write, Memory.lookup_insert, BitVec.toNat_inj]

@[simp] theorem Memory.read_write_same (m : Memory) (a d : Byte) : Memory.read (Memory.write m a d) a = some d := by
  rw [Memory.read_write, if_pos rfl]

theorem Memory.read_write_ne (m : Memory) {a b : Byte} (d : Byte) (h : b ≠ a) :
    Memory.read (Memory.write m a d) b = Memory.read m b := by
  rw [Memory.read_write, if_neg h]

/-! ### The rails after a register write -/

/-- The constraint put on an open pattern holds: the two patterns differ (00_scope.md R8). -/
theorem otherThan_ne (x raw : Byte) : otherThan x raw ≠ x := by
  unfold otherThan
  split <;> bv_omega

theorem railEnable_ne_railDisable (r : Rail) : railEnable r ≠ railDisable r := by
  cases r <;> exact (otherThan_ne _ _).symm

theorem railTarget_ne_railControl (r r' : Rail) : railTarget r ≠ railControl r' := by
  cases r <;> cases r' <;> decide

theorem railTarget_injective : Function.Injective railTarget := by
  intro r r'
  cases r <;> cases r' <;> decide

theorem railControl_injective : Function.Injective railControl := by
  intro r r'
  cases r <;> cases r' <;> decide

/-- The six rail registers are each rail's target and control register (42_pmic_rails.md R180, R198). -/
theorem railTarget_mem_railRegisters (r : Rail) : railTarget r ∈ railRegisters := by
  cases r <;> decide

theorem railControl_mem_railRegisters (r : Rail) : railControl r ∈ railRegisters := by
  cases r <;> decide

/-- A write to neither of a rail's registers leaves the rail as it is. -/
theorem railOf_write_of_ne (m : Memory) {a : Byte} (d : Byte) (r : Rail) (ht : railTarget r ≠ a)
    (hc : railControl r ≠ a) : railOf (Memory.write m a d) r = railOf m r := by
  simp only [railOf, Memory.read_write_ne m d ht, Memory.read_write_ne m d hc]

/-- A write of one rail's target register leaves the others as they are. -/
theorem railOf_writeTarget_of_ne (m : Memory) (d : Byte) {r r' : Rail} (h : r ≠ r') :
    railOf (Memory.write m (railTarget r') d) r = railOf m r :=
  railOf_write_of_ne m d r (railTarget_injective.ne h) (railTarget_ne_railControl r' r).symm

/-- A write of one rail's control register leaves the others as they are. -/
theorem railOf_writeControl_of_ne (m : Memory) (d : Byte) {r r' : Rail} (h : r ≠ r') :
    railOf (Memory.write m (railControl r') d) r = railOf m r :=
  railOf_write_of_ne m d r (railTarget_ne_railControl r r') (railControl_injective.ne h)

/-- The disable pattern disables its own rail and no other (42_pmic_rails.md R197, R198). -/
theorem railOf_disable (m : Memory) (r r' : Rail) :
    railOf (Memory.write m (railControl r') (railDisable r')) r = if r = r' then .disabled else railOf m r := by
  split
  next h => subst h; simp [railOf]
  next h => exact railOf_writeControl_of_ne m _ h

/-- A code in the target register and then the enable pattern enable their own rail at that code, and no other
(42_pmic_rails.md R197, R198). -/
theorem railOf_enable (m : Memory) (r r' : Rail) (k : Byte) :
    railOf (Memory.write (Memory.write m (railTarget r') k) (railControl r') (railEnable r')) r =
      if r = r' then .enabled k else railOf m r := by
  split
  next h =>
    subst h
    simp [railOf, railEnable_ne_railDisable, Memory.read_write_ne _ _ (railTarget_ne_railControl r r)]
  next h => rw [railOf_writeControl_of_ne _ _ h, railOf_writeTarget_of_ne _ _ h]

/-! ### The ways a command's lines can complete -/

/-- The register write a line is, if it is one. -/
def lineWrite : Micro → Option (Byte × Byte)
  | .xfer (.regWrite a d) => some (a, d)
  | _ => none

/-- `pmic_w` after a line that did not fail (42_pmic_rails.md R196). -/
def lineMemory (m : Memory) (l : Micro) : Memory :=
  (lineWrite l).elim m (fun w => Memory.write m w.1 w.2)

/-- The result a line completes its command with, where it completes it. -/
def lineResult : Micro → Option Result
  | .checkInterlock => some .invalidSetting
  | .checkId => some .pmicError
  | .checkCapacity => some .flashError
  | .complete r => some r
  | _ => none

/-- Every way lines can end in a completion: the result and the `pmic_w` then, which holds the writes of the lines
before. -/
def completions : List Micro → Memory → List (Result × Memory)
  | [], _ => []
  | l :: rest, m => (lineResult l).toList.map (·, m) ++ completions rest (lineMemory m l)

/-- SPI frames do not touch `pmic_w`. -/
theorem State.spiXfer_pmicW (s : State) (tx : List Byte) : (s.spiXfer tx).pmicW = s.pmicW := by
  cases hk : (s.answer 0).ok
  · rw [State.spiXfer_fail s tx hk]
  · rw [State.spiXfer_ok s tx hk]

/-- A transfer that does not abort leaves in `pmic_w` the write it is. -/
theorem State.transfer_pmicW (s : State) (x : Transfer) (h : (s.transfer x).seq ≠ .fatal) :
    (s.transfer x).pmicW = lineMemory s.pmicW (.xfer x) := by
  cases x with
  | regWrite a d =>
    simp only [State.transfer, State.memWrite] at h ⊢
    split at h
    · split at h
      · simp only [*, if_true]; rfl
      · exact absurd rfl h
    · exact absurd rfl h
  | regRead a =>
    simp only [State.transfer, State.memRead]
    split
    · split <;> rfl
    · rfl
  | _ => exact s.spiXfer_pmicW _

/-- A transfer of a command in progress aborts it or leaves it in progress. -/
theorem State.transfer_fatal_or_busy (s : State) (x : Transfer) (hb : s.busy = true) :
    (s.transfer x).seq = .fatal ∨ (s.transfer x).busy = true := by
  obtain ⟨k, todo, hs⟩ := s.busy_iff.1 hb
  rcases s.transfer_seq x with h | h | ⟨-, h⟩
  · exact .inl h
  · exact .inr ((State.busy_iff _).2 ⟨_, _, by rw [h, hs, Seq.pop_run]⟩)
  · exact .inr ((State.busy_iff _).2 ⟨_, _, by rw [h, hs, Seq.count_run, Seq.pop_run]⟩)

/-- A line of a command in progress aborts it, or goes on with the line's write done, or completes it with the line's
result. -/
theorem State.micro_cases (s : State) (l : Micro) (hb : s.busy = true) :
    (s.micro l).seq = .fatal ∨
    ((s.micro l).busy = true ∧ (s.micro l).pmicW = lineMemory s.pmicW l) ∨
    (∃ r, lineResult l = some r ∧ s.micro l = s.complete r) := by
  obtain ⟨k, todo, hs⟩ := s.busy_iff.1 hb
  have hpop : ∀ t : State, ∀ n, t.seq = s.seq.pop n → t.busy = true := fun t n ht =>
    t.busy_iff.2 ⟨_, _, by rw [ht, hs, Seq.pop_run]⟩
  cases l with
  | xfer x =>
    by_cases hf : (s.transfer x).seq = .fatal
    · exact .inl hf
    · exact .inr (.inl ⟨(s.transfer_fatal_or_busy x hb).resolve_left hf, s.transfer_pmicW x hf⟩)
  | complete r => exact .inr (.inr ⟨r, rfl, rfl⟩)
  | checkInterlock =>
    simp only [State.micro]
    split
    · exact .inr (.inr ⟨_, rfl, rfl⟩)
    · exact .inr (.inl ⟨hpop _ _ rfl, rfl⟩)
  | checkId | checkCapacity =>
    simp only [State.micro]
    split
    · exact .inr (.inl ⟨hpop _ _ rfl, rfl⟩)
    · exact .inr (.inr ⟨_, rfl, rfl⟩)
  | _ => exact .inr (.inl ⟨hpop _ _ rfl, rfl⟩)

/-- Lines that end in a completion end in one of `completions`. -/
theorem State.runLines_mem_completions (plan : List Micro) (s : State) (hb : s.busy = true)
    (hidle : (s.runLines plan).seq = .idle) :
    ((s.runLines plan).status, (s.runLines plan).pmicW) ∈ completions plan s.pmicW := by
  induction plan generalizing s with
  | nil =>
    obtain ⟨k, todo, hs⟩ := s.busy_iff.1 hb
    rw [State.runLines_nil, hs] at hidle
    cases hidle
  | cons l rest ih =>
    rw [State.runLines_cons] at hidle ⊢
    rcases s.micro_cases l hb with hf | ⟨hb', hm⟩ | ⟨r, hr, hc⟩
    · rw [State.andThen_ended _ _ (by simp [State.busy, hf]), hf] at hidle
      cases hidle
    · rw [State.andThen_busy _ _ hb'] at hidle ⊢
      exact List.mem_append_right _ (hm ▸ ih _ hb' hidle)
    · rw [hc, State.andThen_ended _ _ (s.complete_busy r)]
      exact List.mem_append_left _ (by simp [hr])

/-- A command that completes from an idle block completes in one of the ways its lines can. -/
theorem exec_mem_completions {i : Instr} {plan : List Micro} {s t : State} (hp : planOf i = some plan)
    (hs : s.seq = .idle) (he : exec i s = .next t) (ht : t.seq = .idle) :
    (t.status, t.pmicW) ∈ completions plan s.pmicW := by
  rw [exec_command hp, s.command_idle i plan hs] at he
  cases he
  exact State.runLines_mem_completions plan _ rfl ht

/-- Lines that write no register keep `pmic_w`. -/
theorem completions_of_no_writes {plan : List Micro} {m : Memory} {c : Result × Memory}
    (hw : plan.filterMap lineWrite = []) (hc : c ∈ completions plan m) : c.2 = m := by
  induction plan with
  | nil => cases hc
  | cons l rest ih =>
    have hl : lineWrite l = none := List.filterMap_eq_nil_iff.1 hw l List.mem_cons_self
    have hm : lineMemory m l = m := by simp [lineMemory, hl]
    rcases List.mem_append.1 hc with h | h
    · obtain ⟨r, -, rfl⟩ := List.mem_map.1 h
      rfl
    · rw [hm] at h
      exact ih (by simpa [List.filterMap_cons, hl] using hw) h

/-! ### The table of 42_pmic_rails.md R198, command by command -/

/-- However the lines complete, each rail is then what the table gives for the command and its result. -/
def KeepsRailTable (i : Instr) (plan : List Micro) : Prop :=
  ∀ (m : Memory) (r : Rail), ∀ c ∈ completions plan m, railOf c.2 r = railAfter i c.1 r (railOf m r)

/-- A result that is no success changes no rail in the table. -/
theorem railAfter_of_ne_success (i : Instr) {res : Result} (r : Rail) (old : RailState) (h : res ≠ .success) :
    railAfter i res r old = old := by
  unfold railAfter
  split
  any_goals exact absurd rfl h
  rfl

/-- Lines that write no register keep the table of a command that the table gives no effect. -/
theorem keepsRailTable_of_no_writes {i : Instr} {plan : List Micro} (hw : plan.filterMap lineWrite = [])
    (hi : ∀ res r old, railAfter i res r old = old) : KeepsRailTable i plan := by
  intro m r c hc
  rw [completions_of_no_writes hw hc, hi]

/-- A raw write to no rail register (R198, but for its last row). -/
theorem i2cWr_keepsRailTable {a : Byte} (d : Byte) (ha : a ∉ railRegisters) :
    KeepsRailTable (.i2cWr a d) (planI2cWr a d) := by
  intro m r c hc
  obtain rfl : c = (.success, Memory.write m a d) := List.mem_singleton.1 hc
  exact railOf_write_of_ne m d r (ne_of_mem_of_not_mem (railTarget_mem_railRegisters r) ha)
    (ne_of_mem_of_not_mem (railControl_mem_railRegisters r) ha)

/-- Steps 3 and 4 of `SET_VAUX` and `SET_VIO`, the lines after their checks (42_pmic_rails.md R182, R185). -/
def setRailLines (r : Rail) (mv : Operand) (code : Option Byte) : List Micro :=
  if mv.toNat = 0 then [.xfer (.regWrite (railControl r) (railDisable r)), .complete .success]
  else planEnable (railTarget r) (railControl r) (railEnable r) code

/-- What those lines make of their own rail where they complete with success. -/
def setRailState (mv : Operand) (code : Option Byte) : RailState :=
  if mv.toNat = 0 then .disabled else code.elim .unknown .enabled

theorem planSetVio_eq (mv : Operand) :
    planSetVio mv = if vioRejected mv then [.complete .invalidSetting] else setRailLines .vio mv (encVio mv) := rfl

theorem planSetVaux_eq (mv : Operand) :
    planSetVaux mv = if vauxRejected mv then [.complete .invalidSetting]
      else (if needsInterlock mv then [.xfer (.regRead regVioCtl), .checkInterlock] else []) ++
        setRailLines .vaux mv (encVaux mv) := rfl

theorem railAfter_setVaux_success (mv : Operand) (r : Rail) (old : RailState) :
    railAfter (.setVaux mv) .success r old = if r = .vaux then setRailState mv (encVaux mv) else old := by
  cases r <;> rfl

theorem railAfter_setVio_success (mv : Operand) (r : Rail) (old : RailState) :
    railAfter (.setVio mv) .success r old = if r = .vio then setRailState mv (encVio mv) else old := by
  cases r <;> rfl

/-- The lines after the checks complete with success and set their own rail only, or write nothing. -/
theorem setRailLines_completions {r' : Rail} {mv : Operand} {code : Option Byte} {m : Memory} {c : Result × Memory}
    (hc : c ∈ completions (setRailLines r' mv code) m) :
    c = (.invalidSetting, m) ∨
    (c.1 = .success ∧ ∀ r, railOf c.2 r = if r = r' then setRailState mv code else railOf m r) := by
  unfold setRailLines at hc
  unfold setRailState
  split at hc
  next h0 =>
    obtain rfl := List.mem_singleton.1 hc
    exact .inr ⟨rfl, fun r => by rw [if_pos h0]; exact railOf_disable m r r'⟩
  next h0 =>
    cases code with
    | none => exact .inl (List.mem_singleton.1 hc)
    | some k =>
      obtain rfl := List.mem_singleton.1 hc
      exact .inr ⟨rfl, fun r => by rw [if_neg h0]; exact railOf_enable m r r' k⟩

/-- The table holds of a command whose lines complete as `InvalidSetting` with nothing written, or as the lines of one
rail do. -/
theorem railOf_eq_railAfter_of_setRail {i : Instr} {r' : Rail} {new : RailState} {m : Memory} {c : Result × Memory}
    (hi : ∀ r old, railAfter i .success r old = if r = r' then new else old)
    (hc : c = (.invalidSetting, m) ∨ (c.1 = .success ∧ ∀ r, railOf c.2 r = if r = r' then new else railOf m r))
    (r : Rail) : railOf c.2 r = railAfter i c.1 r (railOf m r) := by
  rcases hc with rfl | ⟨hres, hrail⟩
  · exact (railAfter_of_ne_success i (res := .invalidSetting) r (railOf m r) nofun).symm
  · rw [hres, hrail, hi]

theorem setVio_keepsRailTable (mv : Operand) : KeepsRailTable (.setVio mv) (planSetVio mv) := by
  intro m r c hc
  refine railOf_eq_railAfter_of_setRail (railAfter_setVio_success mv) ?_ r
  rw [planSetVio_eq] at hc
  split at hc
  · exact .inl (List.mem_singleton.1 hc)
  · exact setRailLines_completions hc

theorem setVaux_keepsRailTable (mv : Operand) : KeepsRailTable (.setVaux mv) (planSetVaux mv) := by
  intro m r c hc
  refine railOf_eq_railAfter_of_setRail (railAfter_setVaux_success mv) ?_ r
  rw [planSetVaux_eq] at hc
  split at hc
  · exact .inl (List.mem_singleton.1 hc)
  · split at hc
    · rcases List.mem_cons.1 hc with hlock | hset
      · exact .inl hlock
      · exact setRailLines_completions hset
    · exact setRailLines_completions hc

/-- Switching the core rail on leaves it at the code P6 (R198). -/
theorem setVfpga_on_keepsRailTable (ign : BitVec 15) : KeepsRailTable (.setVfpga ign true) (planSetVfpga true) := by
  intro m r c hc
  obtain rfl := List.mem_singleton.1 hc
  refine (railOf_enable m r .vfpga vfpgaTgt).trans ?_
  cases r <;> rfl

/-- Switching the core rail off disables Vio too (R198, R199). -/
theorem setVfpga_off_keepsRailTable (ign : BitVec 15) : KeepsRailTable (.setVfpga ign false) (planSetVfpga false) := by
  intro m r c hc
  obtain rfl := List.mem_singleton.1 hc
  refine (railOf_disable _ r .vfpga).trans ?_
  cases r with
  | vfpga => rfl
  | vio => exact railOf_disable _ .vio .vio
  | vaux =>
    calc railOf (Memory.write (Memory.write m regVfpgaTgt vfpgaTgt) regVioCtl vioDis) .vaux
        = railOf (Memory.write m regVfpgaTgt vfpgaTgt) .vaux := railOf_writeControl_of_ne (r' := .vio) _ _ nofun
      _ = railOf m .vaux := railOf_writeTarget_of_ne (r' := .vfpga) _ _ nofun

/-- The table of R198 holds of every command, but for a raw write to a rail register. -/
theorem keepsRailTable_of_planOf {i : Instr} {plan : List Micro} (hp : planOf i = some plan)
    (hraw : ∀ a d, i = .i2cWr a d → a ∉ railRegisters) : KeepsRailTable i plan := by
  cases i with
  | i2cWr a d => cases hp; exact i2cWr_keepsRailTable d (hraw a d rfl)
  | setVaux mv => cases hp; exact setVaux_keepsRailTable mv
  | setVio mv => cases hp; exact setVio_keepsRailTable mv
  | setVfpga ign en =>
    cases hp
    cases en with
    | true => exact setVfpga_on_keepsRailTable ign
    | false => exact setVfpga_off_keepsRailTable ign
  | _ => cases hp <;> exact keepsRailTable_of_no_writes rfl fun _ _ _ => rfl

/-- Each rail after a completed command, but for a raw write to a rail register (42_pmic_rails.md R198). -/
theorem rail_of_completed {i : Instr} {s t : State} (r : Rail) (hi : IsCommand i)
    (hraw : ∀ a d, i = .i2cWr a d → a ∉ railRegisters) (hs : s.seq = .idle) (he : exec i s = .next t)
    (ht : t.seq = .idle) : t.rail r = railAfter i t.status r (s.rail r) := by
  obtain ⟨plan, hp⟩ := planOf_of_isCommand hi
  exact keepsRailTable_of_planOf hp hraw s.pmicW r _ (exec_mem_completions hp hs he ht)

/-- `SET_VFPGA 1` completes with nothing but success (60_exceptions.md R271). -/
theorem status_of_setVfpga_on {ign : BitVec 15} {s t : State} (hs : s.seq = .idle)
    (he : exec (.setVfpga ign true) s = .next t) (ht : t.seq = .idle) : t.status = .success := by
  have hc := exec_mem_completions (i := .setVfpga ign true) rfl hs he ht
  exact congrArg Prod.fst (List.mem_singleton.1 hc)

/-- The code P6 stands for 1.2 V (00_scope.md R7, 40_voltage_encoder.md R141; log 8). -/
theorem railVolts_vfpga_of_enabled {t : State} (h : t.rail .vfpga = .enabled vfpgaTgt) :
    t.railVolts .vfpga = some (6 / 5) := by
  simp [State.railVolts, h, nominalVolts, vfpgaVolts]

/-- Settles O11: the turn of such a state is the transaction's row. -/
theorem stepRunsTransaction : Obligations.StepRunsTransaction :=
  fun s k x rest hrst hseq => step_of_turn_run (s.turn_xfer k x rest hrst hseq)

/-- Settles O38: every way a command's lines can complete keeps the table of R198, and the core rail's code P6 has the
voltage 1.2 V. -/
theorem railTransitions : Obligations.RailTransitions := by
  refine ⟨fun _ _ _ r => rail_of_completed r, fun ign s t hs he ht => ?_⟩
  have hrail := rail_of_completed .vfpga (i := .setVfpga ign true) rfl nofun hs he ht
  rw [status_of_setVfpga_on hs he ht] at hrail
  exact railVolts_vfpga_of_enabled hrail

end Sys2Proof.Machine

/-! ## Proofs of the family 10_state.md: the delay counter (O23), RUN(step) (O24), the two granularities (O16), the
bring-up flags and the latch (O21, O22), the frame of a command (O28), the abort (O53), the offered command (O10), reset
(O17, O18)

The lemmas stand in the order of what they speak of: a transfer, a line, a command's lines, a step, the plans. An
invariant is a property that every move of a step keeps (`KeptByMoves`). -/

namespace Sys2Proof.Machine

open Sys2Proof.Safety

/-! ### A transfer: its events and its frame -/

/-- The events of one transaction on a bus, and whether it failed (41_bus_transport.md R150 to R152, 60_exceptions.md
R283). -/
inductive Transaction : Bus → Bool → List Event → Prop where
  | wrote (a d : Byte) : Transaction .i2c false [.i2cWr a d]
  | read (a d : Byte) : Transaction .i2c false [.i2cRd a d]
  | i2cFailed (k : Access) (a : Byte) : Transaction .i2c true [.i2cFail k a, .fatal .i2c]
  | framed (tx rx : List Byte) : Transaction .spi false [.spiFrame tx rx]
  | spiFailed (tx : List Byte) : Transaction .spi true [.spiFail tx, .fatal .spi]

/-- A failed transaction ends with the failure on its own bus and `Fatal`. -/
theorem Transaction.events_of_failed {c : Bus} {evs : List Event} (h : Transaction c true evs) :
    ∃ f, evs = [f, .fatal c] ∧ (c = .i2c → ∃ k a, f = .i2cFail k a) ∧ (c = .spi → ∃ tx, f = .spiFail tx) := by
  cases h with
  | i2cFailed k a => exact ⟨_, rfl, fun _ => ⟨k, a, rfl⟩, nofun⟩
  | spiFailed tx => exact ⟨_, rfl, nofun, fun _ => ⟨tx, rfl⟩⟩

/-- The event is a transaction's: none of the events that bring the block up, set the latch, accept or complete. -/
def IsBusEvent : Event → Prop
  | .i2cWr _ _ | .i2cRd _ _ | .i2cFail _ _ | .spiFrame _ _ | .spiFail _ | .fatal _ => True
  | _ => False

theorem Transaction.isBusEvent {c : Bus} {failed : Bool} {evs : List Event} (h : Transaction c failed evs) :
    ∀ e ∈ evs, IsBusEvent e := by
  cases h <;> simp [IsBusEvent]

/-- The sequencer after a transaction: aborted, or the line done. -/
def seqAfter (failed : Bool) (q : Seq) : Seq := if failed then .fatal else q.pop 1

/-- A register access, done, failed or refused before `INIT` (41_bus_transport.md R150, R151, R155). -/
theorem State.transfer_register (s : State) {x : Transfer} (hx : isFrame x = false) :
    ∃ ret asked mem failed evs, Transaction .i2c failed evs ∧
      s.transfer x = { s with ret := ret, asked := asked, pmicW := mem, seq := seqAfter failed s.seq,
                              trace := s.trace ++ evs } := by
  cases x with
  | regWrite a d =>
    rcases Bool.eq_false_or_eq_true s.i2cEn with he | he
    · rcases Bool.eq_false_or_eq_true (s.answer 0).ok with hk | hk
      · exact ⟨_, _, _, false, _, .wrote a d, s.memWrite_ok a d he hk⟩
      · exact ⟨_, _, _, true, _, .i2cFailed .wr a, s.memWrite_fail a d he hk⟩
    · exact ⟨_, _, _, true, _, .i2cFailed .wr a, s.memWrite_disabled a d he⟩
  | regRead a =>
    rcases Bool.eq_false_or_eq_true s.i2cEn with he | he
    · rcases Bool.eq_false_or_eq_true (s.answer 0).ok with hk | hk
      · exact ⟨_, _, _, false, _, .read a _, s.memRead_ok a he hk⟩
      · exact ⟨_, _, _, true, _, .i2cFailed .rd a, s.memRead_fail a he hk⟩
    · exact ⟨_, _, _, true, _, .i2cFailed .rd a, s.memRead_disabled a he⟩
  | _ => cases hx

/-- `SpiXfer` of a frame, done or failed, with the SPI initialisation before it if that was still to come
(41_bus_transport.md R152). -/
theorem State.spiXfer_cases (s : State) (tx : List Byte) :
    ∃ rx failed evs, Transaction .spi failed evs ∧
      s.spiXfer tx = { s with
        spiInit := true, tx := s.tx.load tx, len := tx.length, rx := rx, asked := s.asked + 1,
        seq := seqAfter failed (if s.spiInit then s.seq else s.seq.count),
        trace := s.trace ++ (spiInitEvents s ++ evs) } := by
  cases hk : (s.answer 0).ok with
  | false => exact ⟨_, true, _, .spiFailed tx, s.spiXfer_fail tx hk⟩
  | true => exact ⟨_, false, _, .framed tx _, s.spiXfer_ok tx hk⟩

/-- A frame is `SpiXfer` of one to four bytes (20_memory.md R68, 30_encoding.md R107). -/
theorem State.transfer_frame (s : State) {x : Transfer} (hx : isFrame x = true) :
    ∃ tx, 1 ≤ tx.length ∧ tx.length ≤ 4 ∧ s.transfer x = s.spiXfer tx := by
  cases x with
  | regWrite a d => cases hx
  | regRead a => cases hx
  | _ => exact ⟨_, by simp [frameBytes, encode, dcBytes], by simp [frameBytes, encode, dcBytes], rfl⟩

/-- The frame of a transfer: it changes the SPI side, the answer's byte and count, the sequencer, the trace and
`pmic_w`, nothing else. -/
theorem State.transfer_keeps (s : State) (x : Transfer) :
    s.transfer x = { s with
      spiInit := (s.transfer x).spiInit, tx := (s.transfer x).tx, rx := (s.transfer x).rx, len := (s.transfer x).len,
      ret := (s.transfer x).ret, asked := (s.transfer x).asked, seq := (s.transfer x).seq,
      trace := (s.transfer x).trace, pmicW := (s.transfer x).pmicW } := by
  cases hx : isFrame x with
  | false =>
    obtain ⟨_, _, _, _, _, -, h⟩ := s.transfer_register hx
    rw [h]
  | true =>
    obtain ⟨tx, -, -, hx⟩ := s.transfer_frame hx
    obtain ⟨_, _, _, -, h⟩ := s.spiXfer_cases tx
    rw [hx, h]

section TransferFields
variable (s : State) (x : Transfer)

@[simp] theorem State.transfer_cmd : (s.transfer x).cmd = s.cmd := by rw [s.transfer_keeps x]
@[simp] theorem State.transfer_status : (s.transfer x).status = s.status := by rw [s.transfer_keeps x]
@[simp] theorem State.transfer_rdata : (s.transfer x).rdata = s.rdata := by rw [s.transfer_keeps x]
@[simp] theorem State.transfer_i2cEn : (s.transfer x).i2cEn = s.i2cEn := by rw [s.transfer_keeps x]
@[simp] theorem State.transfer_cfgRst : (s.transfer x).cfgRst = s.cfgRst := by rw [s.transfer_keeps x]
@[simp] theorem State.transfer_pinRst : (s.transfer x).pinRst = s.pinRst := by rw [s.transfer_keeps x]
@[simp] theorem State.transfer_cfgDone : (s.transfer x).cfgDone = s.cfgDone := by rw [s.transfer_keeps x]
@[simp] theorem State.transfer_dly : (s.transfer x).dly = s.dly := by rw [s.transfer_keeps x]
@[simp] theorem State.transfer_rspValid : (s.transfer x).rspValid = s.rspValid := by rw [s.transfer_keeps x]
@[simp] theorem State.transfer_rst : (s.transfer x).rst = s.rst := by rw [s.transfer_keeps x]
@[simp] theorem State.transfer_inputs : (s.transfer x).inputs = s.inputs := by rw [s.transfer_keeps x]
@[simp] theorem State.transfer_script : (s.transfer x).script = s.script := by rw [s.transfer_keeps x]

end TransferFields

/-- A register access leaves the SPI side as it was (10_state.md R38, R41). -/
theorem State.transfer_register_spi (s : State) {x : Transfer} (hx : isFrame x = false) :
    (s.transfer x).spiInit = s.spiInit ∧ (s.transfer x).tx = s.tx ∧ (s.transfer x).rx = s.rx ∧
      (s.transfer x).len = s.len := by
  obtain ⟨_, _, _, _, _, -, h⟩ := s.transfer_register hx
  simp [h]

/-- The frame length after a transfer is the frame's, or as it was (10_state.md R41). -/
theorem State.transfer_len (s : State) (x : Transfer) (hlo : 1 ≤ s.len) (hhi : s.len ≤ 4) :
    1 ≤ (s.transfer x).len ∧ (s.transfer x).len ≤ 4 := by
  cases hx : isFrame x with
  | false => rw [(s.transfer_register_spi hx).2.2.2]; exact ⟨hlo, hhi⟩
  | true =>
    obtain ⟨tx, h1, h4, hx⟩ := s.transfer_frame hx
    obtain ⟨_, _, _, -, h⟩ := s.spiXfer_cases tx
    rw [hx, h]
    exact ⟨h1, h4⟩

/-- The bus a transfer is on. -/
def transferBus (x : Transfer) : Bus := if isFrame x then .spi else .i2c

/-- A transfer's events but for those of its transaction are the SPI initialisation. -/
theorem eq_spiInit_of_mem {s : State} {x : Transfer} {e : Event}
    (h : e ∈ if isFrame x then spiInitEvents s else []) : e = .spiInit := by
  unfold spiInitEvents at h
  split at h
  · split at h
    · cases h
    · exact List.mem_singleton.1 h
  · cases h

/-- What a transfer adds to the trace, and whether it aborts. -/
theorem State.transfer_events (s : State) (x : Transfer) :
    ∃ failed evs, Transaction (transferBus x) failed evs ∧
      ((s.transfer x).seq = .fatal → s.seq ≠ .fatal → failed = true) ∧
      (s.transfer x).trace = s.trace ++ ((if isFrame x then spiInitEvents s else []) ++ evs) := by
  cases hx : isFrame x with
  | false =>
    obtain ⟨_, _, _, failed, evs, ht, h⟩ := s.transfer_register hx
    refine ⟨failed, evs, by simpa [transferBus, hx] using ht, ?_, by simp [h]⟩
    rw [h]
    cases failed <;> cases s.seq <;> simp [seqAfter]
  | true =>
    obtain ⟨tx, -, -, hf⟩ := s.transfer_frame hx
    obtain ⟨_, failed, evs, ht, h⟩ := s.spiXfer_cases tx
    refine ⟨failed, evs, by simpa [transferBus, hx] using ht, ?_, by simp [hf, h]⟩
    rw [hf, h]
    cases failed <;> cases s.seq <;> cases s.spiInit <;> simp [seqAfter]

/-! ### A line: the sequencer after it, its frame, its events -/

/-- What part of the state a line is about. -/
inductive LineKind where
  | bringUp | pin | store | flash | register | control
  deriving DecidableEq

/-- The part of the state a line is about: the pin modes and `i2c_en`, the latch, `RDATA`, the flash, a PMIC register,
or the flow of the command. -/
def lineKind : Micro → LineKind
  | .cfgRst | .cfgDone | .i2cInit => .bringUp
  | .pinLow => .pin
  | .storeByte | .storeBusy => .store
  | .xfer x => if isFrame x then .flash else .register
  | .delay _ | .wait => .flash
  | .checkInterlock | .checkId | .checkCapacity | .complete _ => .control

theorem lineKind_xfer (x : Transfer) : lineKind (.xfer x) = if isFrame x then .flash else .register := rfl

theorem isFrame_of_lineKind_ne_flash {x : Transfer} (h : lineKind (.xfer x) ≠ .flash) : isFrame x = false := by
  cases hx : isFrame x with
  | false => rfl
  | true => exact absurd (if_pos hx) h

/-- No line changes `CMD`, the input `rst` or what the environment will do (20_memory.md R64). -/
theorem State.micro_keeps (s : State) (m : Micro) :
    s.micro m = { s.micro m with cmd := s.cmd, rst := s.rst, inputs := s.inputs, script := s.script } := by
  cases m with
  | xfer x => simp only [State.micro]; rw [s.transfer_keeps x]
  | checkInterlock | checkId | checkCapacity => simp only [State.micro]; split <;> rfl
  | _ => rfl

@[simp] theorem State.micro_cmd (s : State) (m : Micro) : (s.micro m).cmd = s.cmd := by rw [s.micro_keeps m]
@[simp] theorem State.micro_rst (s : State) (m : Micro) : (s.micro m).rst = s.rst := by rw [s.micro_keeps m]
@[simp] theorem State.micro_inputs (s : State) (m : Micro) : (s.micro m).inputs = s.inputs := by rw [s.micro_keeps m]
@[simp] theorem State.micro_script (s : State) (m : Micro) : (s.micro m).script = s.script := by rw [s.micro_keeps m]

/-- `i2c_en` and the pin modes change in the lines of `INIT` only (10_state.md R36, R37). -/
theorem State.micro_bringUp (s : State) {m : Micro} (h : lineKind m ≠ .bringUp) :
    (s.micro m).i2cEn = s.i2cEn ∧ (s.micro m).cfgRst = s.cfgRst ∧ (s.micro m).cfgDone = s.cfgDone := by
  cases m with
  | cfgRst | cfgDone | i2cInit => exact absurd rfl h
  | xfer x => simp [State.micro]
  | checkInterlock | checkId | checkCapacity => simp only [State.micro]; split <;> exact ⟨rfl, rfl, rfl⟩
  | _ => exact ⟨rfl, rfl, rfl⟩

/-- The latch changes in the line of `FPGA_HOLD` only (10_state.md R36, 44_fpga_reset.md R250). -/
theorem State.micro_pinRst (s : State) {m : Micro} (h : lineKind m ≠ .pin) : (s.micro m).pinRst = s.pinRst := by
  cases m with
  | pinLow => exact absurd rfl h
  | xfer x => exact s.transfer_pinRst x
  | checkInterlock | checkId | checkCapacity => simp only [State.micro]; split <;> rfl
  | _ => rfl

/-- `RDATA` changes in the lines that store to it only (10_state.md R24). -/
theorem State.micro_rdata (s : State) {m : Micro} (h : lineKind m ≠ .store) : (s.micro m).rdata = s.rdata := by
  cases m with
  | storeByte | storeBusy => exact absurd rfl h
  | xfer x => exact s.transfer_rdata x
  | checkInterlock | checkId | checkCapacity => simp only [State.micro]; split <;> rfl
  | _ => rfl

/-- The SPI side and the delay counter change in the flash's lines only (10_state.md R38, R41, R44). -/
theorem State.micro_flash (s : State) {m : Micro} (h : lineKind m ≠ .flash) :
    (s.micro m).spiInit = s.spiInit ∧ (s.micro m).tx = s.tx ∧ (s.micro m).rx = s.rx ∧ (s.micro m).len = s.len ∧
      (s.micro m).dly = s.dly := by
  cases m with
  | delay | wait => exact absurd rfl h
  | xfer x =>
    obtain ⟨hinit, htx, hrx, hlen⟩ := s.transfer_register_spi (isFrame_of_lineKind_ne_flash h)
    exact ⟨hinit, htx, hrx, hlen, s.transfer_dly x⟩
  | checkInterlock | checkId | checkCapacity => simp only [State.micro]; split <;> exact ⟨rfl, rfl, rfl, rfl, rfl⟩
  | _ => exact ⟨rfl, rfl, rfl, rfl, rfl⟩

/-- The delay counter changes in the two lines of a delay only (10_state.md R44). -/
theorem State.micro_dly (s : State) {m : Micro} (hd : ∀ us, m ≠ .delay us) (hw : m ≠ .wait) :
    (s.micro m).dly = s.dly := by
  cases m with
  | delay us => exact absurd rfl (hd us)
  | wait => exact absurd rfl hw
  | xfer x => exact s.transfer_dly x
  | checkInterlock | checkId | checkCapacity => simp only [State.micro]; split <;> rfl
  | _ => rfl

/-- A line ends the command, or goes on with the lines after it and has counted the micro-steps it takes (10_state.md
R26). -/
theorem State.micro_seq {s : State} {k : Nat} {m : Micro} {rest : List Micro} (hs : s.seq = .run k (m :: rest)) :
    (s.micro m).busy = false ∨ ∃ k', (s.micro m).seq = .run k' rest ∧
      k' + microSteps (s.micro m).spiInit rest = k + microSteps s.spiInit (m :: rest) := by
  cases m with
  | xfer x =>
    cases hx : isFrame x with
    | false =>
      obtain ⟨_, _, _, failed, _, -, h⟩ := s.transfer_register hx
      cases failed with
      | true => exact .inl (by simp [State.micro, h, State.busy, seqAfter])
      | false =>
        refine .inr ⟨k + 1, by simp [State.micro, h, hs, seqAfter], ?_⟩
        simp [State.micro, h, microSteps, hx, Nat.add_assoc]
    | true =>
      obtain ⟨tx, -, -, hf⟩ := s.transfer_frame hx
      obtain ⟨_, failed, _, -, h⟩ := s.spiXfer_cases tx
      cases failed with
      | true => exact .inl (by simp [State.micro, hf, h, State.busy, seqAfter])
      | false =>
        refine .inr ⟨k + (if s.spiInit then 1 else 2), ?_, by simp [State.micro, hf, h, microSteps, hx, Nat.add_assoc]⟩
        cases hi : s.spiInit <;> simp [State.micro, hf, h, hs, hi, seqAfter]
  | checkInterlock =>
    simp only [State.micro]
    split
    · exact .inl rfl
    · exact .inr ⟨k, by simp [hs], rfl⟩
  | checkId | checkCapacity =>
    simp only [State.micro]
    split
    · exact .inr ⟨k, by simp [hs], rfl⟩
    · exact .inl rfl
  | complete r => exact .inl rfl
  | storeByte | storeBusy | delay us => exact .inr ⟨k, by simp [State.micro, hs], rfl⟩
  | _ => exact .inr ⟨k + 1, by simp [State.micro, hs], by simp [State.micro, microSteps, Nat.add_assoc]⟩

/-- Only a transfer aborts. -/
theorem State.micro_fatal {s : State} {k : Nat} {m : Micro} {rest : List Micro} (hs : s.seq = .run k (m :: rest))
    (hf : (s.micro m).seq = .fatal) : ∃ x, m = .xfer x := by
  cases m with
  | xfer x => exact ⟨x, rfl⟩
  | checkInterlock | checkId | checkCapacity =>
    simp only [State.micro] at hf
    split at hf <;> simp [hs] at hf
  | _ => simp [State.micro, hs] at hf

/-- From the one state to the other nothing completed: `STATUS` and `rsp_valid` are as they were, and the events added
hold no `Complete`. -/
structure NoCompletion (s t : State) : Prop where
  status : t.status = s.status
  rspValid : t.rspValid = s.rspValid
  trace : ∃ evs, t.trace = s.trace ++ evs ∧ ∀ w r d, Event.complete w r d ∉ evs

theorem NoCompletion.trans {s t u : State} (h : NoCompletion s t) (h' : NoCompletion t u) : NoCompletion s u := by
  obtain ⟨hst, hrv, evs, ht, hno⟩ := h
  obtain ⟨hst', hrv', evs', ht', hno'⟩ := h'
  exact ⟨hst'.trans hst, hrv'.trans hrv, evs ++ evs', by rw [ht', ht, List.append_assoc], by simp [hno, hno']⟩

/-- No event of a transfer is a `Complete`. -/
theorem State.transfer_noCompletion (s : State) (x : Transfer) : NoCompletion s (s.transfer x) := by
  obtain ⟨failed, evs, ht, -, htr⟩ := s.transfer_events x
  refine ⟨s.transfer_status x, s.transfer_rspValid x, _, htr, fun w r d hmem => ?_⟩
  rcases List.mem_append.1 hmem with h | h
  · cases eq_spiInit_of_mem h
  · exact ht.isBusEvent _ h

/-- A line completes the command or completes nothing. -/
theorem State.micro_complete_or_noCompletion (s : State) (m : Micro) :
    (∃ r, s.micro m = s.complete r) ∨ NoCompletion s (s.micro m) := by
  cases m with
  | xfer x => exact .inr (s.transfer_noCompletion x)
  | complete r => exact .inl ⟨r, rfl⟩
  | checkInterlock =>
    simp only [State.micro]
    split
    · exact .inl ⟨_, rfl⟩
    · exact .inr ⟨rfl, rfl, [], by simp, by simp⟩
  | checkId | checkCapacity =>
    simp only [State.micro]
    split
    · exact .inr ⟨rfl, rfl, [], by simp, by simp⟩
    · exact .inl ⟨_, rfl⟩
  | storeByte | storeBusy | wait => exact .inr ⟨rfl, rfl, [], by simp [State.micro], by simp⟩
  | _ => exact .inr ⟨rfl, rfl, [_], rfl, by simp⟩

/-! ### A command's lines, in step with the sequencer -/

/-- What each line keeps in the states in which the sequencer has it next, the lines keep. -/
theorem State.runLines_induction {P : State → Prop} {plan : List Micro}
    (hline : ∀ t k m rest, m :: rest <:+ plan → t.seq = .run k (m :: rest) → P t → P (t.micro m))
    {todo : List Micro} (htodo : todo <:+ plan) {s : State} {k : Nat} (hs : s.seq = .run k todo) (h : P s) :
    P (s.runLines todo) := by
  induction todo generalizing s k with
  | nil => exact h
  | cons m rest ih =>
    have hm : P (s.micro m) := hline s k m rest htodo hs h
    rw [State.runLines_cons]
    rcases s.micro_seq hs with hb | ⟨k', hs', -⟩
    · rwa [State.andThen_ended _ _ hb]
    · rw [State.andThen_busy _ _ ((State.busy_iff _).2 ⟨k', rest, hs'⟩)]
      exact ih ((List.suffix_cons m rest).trans htodo) hs' hm

/-- The same of a whole command taken by an idle block. -/
theorem State.command_induction {P : State → Prop} {i : Instr} {plan : List Micro} {s : State} (hs : s.seq = .idle)
    (ha : P (s.accept (commandWord i) plan))
    (hline : ∀ t k m rest, m :: rest <:+ plan → t.seq = .run k (m :: rest) → P t → P (t.micro m)) :
    P (s.command i plan) := by
  rw [s.command_idle i plan hs]
  exact State.runLines_induction hline List.suffix_rfl (s.accept_seq _ _) ha

/-! ### What a step can do -/

/-- Every word on the command port is a command or reserved (30_encoding.md R119). -/
theorem isCommand_decodeCommand (w : Word) : IsCommand (decodeCommand w) := by
  unfold decodeCommand
  split <;> rfl

section Step
variable {s : State}

theorem step_of_rst (hrst : s.rst = true) : step s = .next s.takeReset := by
  simp [step, State.turn, hrst]

theorem step_of_fatal (hrst : s.rst = false) (hs : s.seq = .fatal) : step s = .next { s with rspValid := false } := by
  simp [step, State.turn, hrst, hs]

theorem step_of_no_input (hrst : s.rst = false) (hs : s.seq = .idle) (hi : s.inputs = []) :
    step s = .next { s with rspValid := false } := by
  simp [step, State.turn, hrst, hs, State.hostTurn, hi]

theorem step_of_pinWrite {l : Bool} {acts : List HostAct} (hrst : s.rst = false) (hs : s.seq = .idle)
    (hi : s.inputs = .pinWrite l :: acts) :
    step s = .next (State.hostPinWrite l { s with inputs := acts, rspValid := false }) := by
  simp [step, State.turn, hrst, hs, State.hostTurn, hi]

theorem step_of_command {w : Word} {acts : List HostAct} (hrst : s.rst = false) (hs : s.seq = .idle)
    (hi : s.inputs = .command w :: acts) :
    step s = exec (decodeCommand w) { s with inputs := acts, rspValid := false } := by
  simp [step, State.turn, hrst, hs, State.hostTurn, hi]

theorem step_of_no_line {k : Nat} (hrst : s.rst = false) (hs : s.seq = .run k []) :
    step s = .next { s with rspValid := false } := by
  simp [step, State.turn, hrst, hs, State.runTurn]

/-- A block at `RUN(step)` does its next line, a transfer by the row it is (10_state.md R26). -/
theorem step_of_line {k : Nat} {m : Micro} {rest : List Micro} (hrst : s.rst = false)
    (hs : s.seq = .run k (m :: rest)) : step s = .next (State.microTick m { s with rspValid := false }) := by
  cases m with
  | xfer x =>
    rw [step_of_turn_run (s.turn_xfer k x rest hrst hs), exec_transfer (instrTransfer_transferInstr x)]
    rfl
  | _ => simp [step, State.turn, hrst, hs, State.runTurn]

end Step

/-- In one clock every line but the wait is done whole. -/
theorem State.microTick_of_ne_wait (s : State) {m : Micro} (hm : m ≠ .wait) : s.microTick m = s.micro m := by
  cases m with
  | wait => exact absurd rfl hm
  | _ => rfl

/-- The wait is done when the counter is at zero (60_exceptions.md R293). -/
theorem State.microTick_wait_of_zero {s : State} (h : s.dly = 0) : s.microTick .wait = s.micro .wait := by
  simp [State.microTick, State.micro, State.advance, h]

/-- Until then a clock takes one tick off. -/
theorem State.microTick_wait_of_ne_zero {s : State} (h : s.dly ≠ 0) :
    s.microTick .wait = { s with dly := s.dly - 1 } := by
  simp [State.microTick, h]

/-- What a property of the state has to survive: the moves that every step is made of (10_state.md R26, 44_fpga_reset.md
R252, 60_exceptions.md R293, 70_reset_and_hazards.md R310). -/
structure KeptByMoves (P : State → Prop) : Prop where
  reset : ∀ s : State, P s.takeReset
  ports : ∀ (s : State) (acts : List HostAct), P s → P { s with inputs := acts, rspValid := false }
  pinWrite : ∀ (s : State) (l : Bool), s.seq = .idle → P s → P (s.hostPinWrite l)
  accept : KeptByAcceptance P
  line : ∀ (s : State) k m rest, s.seq = .run k (m :: rest) → P s → P (s.micro m)
  tick : ∀ (s : State) k rest, s.seq = .run k (.wait :: rest) → P s → P { s with dly := s.dly - 1 }

/-- What the moves keep, a line done in one clock keeps. -/
theorem KeptByMoves.microTick {P : State → Prop} (hP : KeptByMoves P) {s : State} {k : Nat} {m : Micro}
    {rest : List Micro} (hs : s.seq = .run k (m :: rest)) (h : P s) : P (s.microTick m) := by
  by_cases hm : m = .wait
  · subst hm
    by_cases hd : s.dly = 0
    · rw [State.microTick_wait_of_zero hd]; exact hP.line s k _ rest hs h
    · rw [State.microTick_wait_of_ne_zero hd]; exact hP.tick s k rest hs h
  · rw [State.microTick_of_ne_wait s hm]; exact hP.line s k m rest hs h

/-- What the moves keep, every step keeps: the step of an idle block, which runs a whole command, and the step of one
line. -/
theorem KeptByMoves.step {P : State → Prop} (hP : KeptByMoves P) {s t : State} (h : P s) (ht : step s = .next t) :
    P t := by
  cases hrst : s.rst with
  | true => rw [step_of_rst hrst] at ht; cases ht; exact hP.reset s
  | false =>
    cases hs : s.seq with
    | fatal => rw [step_of_fatal hrst hs] at ht; cases ht; exact hP.ports s _ h
    | idle =>
      rcases hi : s.inputs with _ | ⟨w | l, acts⟩
      · rw [step_of_no_input hrst hs hi] at ht; cases ht; exact hP.ports s _ h
      · obtain ⟨plan, hp⟩ := planOf_of_isCommand (isCommand_decodeCommand w)
        rw [step_of_command hrst hs hi, exec_command hp] at ht
        cases ht
        have ha := hP.accept _ _ _ (hP.ports s acts h) hs hp
        exact State.command_induction hs ha fun u k m rest _ => hP.line u k m rest
      · rw [step_of_pinWrite hrst hs hi] at ht; cases ht; exact hP.pinWrite _ l hs (hP.ports s acts h)
    | run k todo =>
      cases todo with
      | nil => rw [step_of_no_line hrst hs] at ht; cases ht; exact hP.ports s _ h
      | cons m rest =>
        rw [step_of_line hrst hs] at ht
        cases ht
        exact hP.microTick hs (hP.ports s _ h)

/-! ### The plans -/

/-- The lines of one rail after its checks: an operand without a code, zero, or a code. -/
theorem setRailLines_cases (r : Rail) (mv : Operand) (code : Option Byte) :
    setRailLines r mv code = [.complete .invalidSetting] ∨
    (∃ a d, setRailLines r mv code = [.xfer (.regWrite a d), .complete .success]) ∨
    (∃ a d a' d', setRailLines r mv code =
      [.xfer (.regWrite a d), .xfer (.regWrite a' d'), .complete .success]) := by
  unfold setRailLines
  split
  · exact .inr (.inl ⟨_, _, rfl⟩)
  · cases code with
    | none => exact .inl rfl
    | some k => exact .inr (.inr ⟨_, _, _, _, rfl⟩)

/-- What the lines of a command have in common: the last one completes, every delay is awaited, and they take four
micro-steps at the most (10_state.md R26, R27, 60_exceptions.md R292). -/
structure WellBuilt (plan : List Micro) : Prop where
  completes : ∃ r, plan.getLast? = some (.complete r)
  awaited : delaysAwaited plan = true
  bounded : ∀ spi, microSteps spi plan ≤ 4

theorem wellBuilt_complete (r : Result) : WellBuilt [.complete r] := ⟨⟨_, rfl⟩, rfl, fun _ => Nat.zero_le _⟩

theorem setRailLines_wellBuilt (r : Rail) (mv : Operand) (code : Option Byte) :
    WellBuilt (setRailLines r mv code) := by
  rcases setRailLines_cases r mv code with h | ⟨a, d, h⟩ | ⟨a, d, a', d', h⟩ <;> rw [h]
  · exact wellBuilt_complete _
  · exact ⟨⟨_, rfl⟩, rfl, fun spi => by simp [microSteps, isFrame]⟩
  · exact ⟨⟨_, rfl⟩, rfl, fun spi => by simp [microSteps, isFrame]⟩

/-- The interlock of `SET_VAUX` is one micro-step before the lines of the rail (42_pmic_rails.md R182). -/
theorem interlocked_wellBuilt (mv : Operand) (code : Option Byte) :
    WellBuilt ([.xfer (.regRead regVioCtl), .checkInterlock] ++ setRailLines .vaux mv code) := by
  rcases setRailLines_cases .vaux mv code with h | ⟨a, d, h⟩ | ⟨a, d, a', d', h⟩ <;> rw [h] <;>
    exact ⟨⟨_, rfl⟩, rfl, fun spi => by simp [microSteps, isFrame]⟩

theorem planSetVaux_wellBuilt (mv : Operand) : WellBuilt (planSetVaux mv) := by
  rw [planSetVaux_eq]
  split
  · exact wellBuilt_complete _
  · split
    · exact interlocked_wellBuilt mv _
    · exact setRailLines_wellBuilt .vaux mv _

theorem planSetVio_wellBuilt (mv : Operand) : WellBuilt (planSetVio mv) := by
  rw [planSetVio_eq]
  split
  · exact wellBuilt_complete _
  · exact setRailLines_wellBuilt .vio mv _

theorem planOf_wellBuilt {i : Instr} {plan : List Micro} (hp : planOf i = some plan) : WellBuilt plan := by
  cases i with
  | setVaux mv => cases hp; exact planSetVaux_wellBuilt mv
  | setVio mv => cases hp; exact planSetVio_wellBuilt mv
  | setVfpga ign en =>
    cases hp
    cases en <;> exact ⟨⟨_, rfl⟩, rfl, by decide⟩
  | i2cRd a ign => cases hp; exact ⟨⟨_, rfl⟩, rfl, fun _ => by simp [planI2cRd, microSteps, isFrame]⟩
  | i2cWr a d => cases hp; exact ⟨⟨_, rfl⟩, rfl, fun _ => by simp [planI2cWr, microSteps, isFrame]⟩
  | _ => cases hp <;> exact ⟨⟨_, rfl⟩, rfl, by decide⟩

/-- The parts of the state the lines of each command are about (20_memory.md R66, 10_state.md R24, R36). -/
def lineKinds : Instr → List LineKind
  | .i2cRd _ _ => [.register, .store, .control]
  | .i2cWr _ _ | .setVaux _ | .setVio _ | .setVfpga _ _ => [.register, .control]
  | .flWake _ | .flReset _ | .flIdent _ | .flErase _ => [.flash, .control]
  | .flBusy _ => [.flash, .store, .control]
  | .fpgaHold _ => [.pin, .control]
  | .init _ => [.bringUp, .register, .control]
  | _ => [.control]

theorem lineKind_mem_setRailLines {r : Rail} {mv : Operand} {code : Option Byte} {m : Micro}
    (hm : m ∈ setRailLines r mv code) : lineKind m = .register ∨ lineKind m = .control := by
  rcases setRailLines_cases r mv code with h | ⟨a, d, h⟩ | ⟨a, d, a', d', h⟩ <;> rw [h] at hm <;>
    simp only [List.mem_cons, List.not_mem_nil, or_false] at hm
  · exact .inr (hm ▸ rfl)
  · rcases hm with rfl | rfl
    · exact .inl rfl
    · exact .inr rfl
  · rcases hm with rfl | rfl | rfl
    · exact .inl rfl
    · exact .inl rfl
    · exact .inr rfl

/-- Checks every line of a plan. -/
theorem lineKind_mem_of_all {plan : List Micro} {kinds : List LineKind}
    (h : (plan.all fun m => decide (lineKind m ∈ kinds)) = true) {m : Micro} (hm : m ∈ plan) : lineKind m ∈ kinds :=
  of_decide_eq_true (List.all_eq_true.1 h m hm)

theorem lineKind_mem_planSetVaux {mv : Operand} {m : Micro} (hm : m ∈ planSetVaux mv) :
    lineKind m ∈ lineKinds (.setVaux mv) := by
  rw [planSetVaux_eq] at hm
  split at hm
  · exact lineKind_mem_of_all rfl hm
  · rcases List.mem_append.1 hm with hlock | hset
    · split at hlock
      · exact lineKind_mem_of_all rfl hlock
      · cases hlock
    · simpa [lineKinds] using lineKind_mem_setRailLines hset

theorem lineKind_mem_planSetVio {mv : Operand} {m : Micro} (hm : m ∈ planSetVio mv) :
    lineKind m ∈ lineKinds (.setVio mv) := by
  rw [planSetVio_eq] at hm
  split at hm
  · exact lineKind_mem_of_all rfl hm
  · simpa [lineKinds] using lineKind_mem_setRailLines hm

/-- Every line of a command is about one of the command's parts of the state. -/
theorem lineKind_mem {i : Instr} {plan : List Micro} (hp : planOf i = some plan) {m : Micro} (hm : m ∈ plan) :
    lineKind m ∈ lineKinds i := by
  cases i with
  | setVaux mv => cases hp; exact lineKind_mem_planSetVaux hm
  | setVio mv => cases hp; exact lineKind_mem_planSetVio hm
  | setVfpga ign en => cases hp; cases en <;> exact lineKind_mem_of_all rfl hm
  | _ => cases hp <;> exact lineKind_mem_of_all rfl hm

/-! ### The bring-up flags, the pin modes and the latch (O21, O22) -/

/-- The event is a setting of the I2C bus or of a pin. -/
def IsSetting : Event → Prop
  | .i2cInit | .pinCfgRst _ | .pinCfgDone _ | .pinSet _ => True
  | _ => False

theorem IsBusEvent.not_isSetting {e : Event} (h : IsBusEvent e) : ¬ IsSetting e := by
  cases e <;> simp_all [IsBusEvent, IsSetting]

/-- A transfer adds no setting, and the SPI initialisation exactly where it does it. -/
theorem State.transfer_plain (s : State) (x : Transfer) : ∃ evs, (s.transfer x).trace = s.trace ++ evs ∧
    (∀ e ∈ evs, ¬ IsSetting e) ∧ ((s.transfer x).spiInit = true ↔ s.spiInit = true ∨ Event.spiInit ∈ evs) := by
  obtain ⟨failed, evs, ht, -, htr⟩ := s.transfer_events x
  have hbus : ∀ e ∈ evs, ¬ IsSetting e := fun e he => (ht.isBusEvent e he).not_isSetting
  have hspi : Event.spiInit ∉ evs := fun he => ht.isBusEvent _ he
  refine ⟨_, htr, ?_, ?_⟩
  · intro e he
    rcases List.mem_append.1 he with h | h
    · exact eq_spiInit_of_mem h ▸ id
    · exact hbus e h
  · cases hx : isFrame x with
    | false => rw [(s.transfer_register_spi hx).1]; simp [hspi]
    | true =>
      obtain ⟨tx, -, -, hf⟩ := s.transfer_frame hx
      obtain ⟨_, _, _, -, h⟩ := s.spiXfer_cases tx
      cases hi : s.spiInit <;> simp [hf, h, spiInitEvents, hi]

/-- So does every line but those that set something. -/
theorem State.micro_plain (s : State) {m : Micro} (hb : lineKind m ≠ .bringUp) (hp : lineKind m ≠ .pin) :
    ∃ evs, (s.micro m).trace = s.trace ++ evs ∧ (∀ e ∈ evs, ¬ IsSetting e) ∧
      ((s.micro m).spiInit = true ↔ s.spiInit = true ∨ Event.spiInit ∈ evs) := by
  cases m with
  | xfer x => exact s.transfer_plain x
  | cfgRst | cfgDone | i2cInit => exact absurd rfl hb
  | pinLow => exact absurd rfl hp
  | delay us => exact ⟨[.delay us], rfl, by simp [IsSetting], by simp [State.micro]⟩
  | complete r => exact ⟨[.complete s.cmd r s.rdata], rfl, by simp [IsSetting], by simp [State.micro]⟩
  | checkInterlock =>
    simp only [State.micro]
    split
    · exact ⟨[.complete s.cmd _ s.rdata], rfl, by simp [IsSetting], by simp⟩
    · exact ⟨[], by simp, by simp, by simp⟩
  | checkId | checkCapacity =>
    simp only [State.micro]
    split
    · exact ⟨[], by simp, by simp, by simp⟩
    · exact ⟨[.complete s.cmd _ s.rdata], rfl, by simp [IsSetting], by simp⟩
  | _ => exact ⟨[], by simp [State.micro], by simp, by simp [State.micro]⟩

/-- Events that set nothing keep the flags in agreement with the trace, if `spi_init` follows its event. -/
theorem bringUpFlags_of_plain {s t : State} {evs : List Event} (h : BringUpFlags s)
    (hflags : t.i2cEn = s.i2cEn ∧ t.cfgRst = s.cfgRst ∧ t.cfgDone = s.cfgDone) (htr : t.trace = s.trace ++ evs)
    (hset : ∀ e ∈ evs, ¬ IsSetting e) (hspi : t.spiInit = true ↔ s.spiInit = true ∨ Event.spiInit ∈ evs) :
    BringUpFlags t := by
  obtain ⟨hen, hsp, hrst, hdone⟩ := h
  obtain ⟨hen', hrst', hdone'⟩ := hflags
  have hnot : ∀ e, IsSetting e → e ∉ evs := fun e he hmem => hset e hmem he
  refine ⟨?_, ?_, ?_, ?_⟩
  · rw [hen', hen, htr]; simp [hnot .i2cInit trivial]
  · rw [hspi, hsp, htr]; simp
  · rw [hrst', hrst, htr]; simp [hnot (.pinCfgRst .out) trivial]
  · rw [hdone', hdone, htr]; simp [hnot (.pinCfgDone .inPullup) trivial]

theorem bringUpFlags_line (s : State) (m : Micro) (h : BringUpFlags s) : BringUpFlags (s.micro m) := by
  by_cases hk : lineKind m = .bringUp ∨ lineKind m = .pin
  · obtain ⟨hen, hsp, hrst, hdone⟩ := h
    cases m with
    | cfgRst | cfgDone | i2cInit | pinLow => simp [State.micro, BringUpFlags, hen, hsp, hrst, hdone]
    | xfer x => cases hx : isFrame x <;> simp [lineKind, hx] at hk
    | _ => simp [lineKind] at hk
  · obtain ⟨hb, hp⟩ := not_or.1 hk
    obtain ⟨evs, htr, hset, hspi⟩ := s.micro_plain hb hp
    exact bringUpFlags_of_plain h (s.micro_bringUp hb) htr hset hspi

theorem bringUpFlags_keptByMoves : KeptByMoves BringUpFlags where
  reset s := by simp [BringUpFlags]
  ports _ _ h := h
  pinWrite s l _ h := by simpa [BringUpFlags] using h
  accept i plan s h _ _ := by simpa [BringUpFlags] using h
  line s _ m _ _ h := bringUpFlags_line s m h
  tick _ _ _ _ h := h

/-- Settles O21: every move of a step keeps the agreement. -/
theorem bringUpFlagsKept : Obligations.BringUpFlagsKept :=
  ⟨fun _ _ => bringUpFlags_keptByMoves.step, bringUpFlags_keptByMoves.accept⟩

/-- Events that set nothing leave the level last written as it was. -/
theorem lastPinSet_append_plain {tr evs : List Event} (hset : ∀ e ∈ evs, ¬ IsSetting e) :
    lastPinSet (tr ++ evs) = lastPinSet tr := by
  induction evs generalizing tr with
  | nil => simp
  | cons e rest ih =>
    have he : lastPinSet (tr ++ [e]) = lastPinSet tr := by
      have := hset e List.mem_cons_self
      cases e <;> simp_all [lastPinSet, IsSetting]
    calc lastPinSet (tr ++ e :: rest)
        = lastPinSet (tr ++ [e] ++ rest) := by rw [List.append_assoc, List.singleton_append]
      _ = lastPinSet (tr ++ [e]) := ih fun e' h => hset e' (List.mem_cons_of_mem _ h)
      _ = lastPinSet tr := he

@[simp] theorem lastPinSet_append_pinSet (tr : List Event) (l : Bool) : lastPinSet (tr ++ [.pinSet l]) = l := by
  simp [lastPinSet]

theorem State.micro_len (s : State) (m : Micro) (hlo : 1 ≤ s.len) (hhi : s.len ≤ 4) :
    1 ≤ (s.micro m).len ∧ (s.micro m).len ≤ 4 := by
  cases m with
  | xfer x => exact s.transfer_len x hlo hhi
  | checkInterlock | checkId | checkCapacity => simp only [State.micro]; split <;> exact ⟨hlo, hhi⟩
  | _ => exact ⟨hlo, hhi⟩

/-- The latch follows the trace through every line: `FPGA_HOLD`'s writes both, `INIT`'s neither (decision D15). -/
theorem latch_line (s : State) (m : Micro) (h : s.pinRst = lastPinSet s.trace) :
    (s.micro m).pinRst = lastPinSet (s.micro m).trace := by
  by_cases hk : lineKind m = .bringUp ∨ lineKind m = .pin
  · cases m with
    | cfgRst | cfgDone | i2cInit => simpa [State.micro, lastPinSet] using h
    | pinLow => simp [State.micro]
    | xfer x => cases hx : isFrame x <;> simp [lineKind, hx] at hk
    | _ => simp [lineKind] at hk
  · obtain ⟨hb, hp⟩ := not_or.1 hk
    obtain ⟨evs, htr, hset, -⟩ := s.micro_plain hb hp
    rw [s.micro_pinRst hp, htr, lastPinSet_append_plain hset, h]

theorem latchAndLength_keptByMoves : KeptByMoves LatchAndLength where
  reset s := by simp [LatchAndLength, lastPinSet]
  ports _ _ h := h
  pinWrite s l _ h := ⟨by simp, h.2⟩
  accept i plan s h _ _ := by simpa [LatchAndLength, lastPinSet] using h
  line s _ m _ _ h := ⟨latch_line s m h.1, s.micro_len m h.2.1 h.2.2⟩
  tick _ _ _ _ h := h

/-- Settles O22: every move of a step keeps the latch and the length. -/
theorem latchAndLengthKept : Obligations.LatchAndLengthKept :=
  ⟨fun _ _ => latchAndLength_keptByMoves.step, latchAndLength_keptByMoves.accept⟩

/-! ### The delay counter (O23) -/

theorem delaysAwaited_tail {m : Micro} {rest : List Micro} (h : delaysAwaited (m :: rest) = true) :
    delaysAwaited rest = true := by
  cases m with
  | delay us =>
    cases rest with
    | nil => cases h
    | cons m' rest' => exact (Bool.and_eq_true_iff.1 h).2
  | _ => exact h

/-- A delay's next line is its wait. -/
theorem wait_after_delay {us : Nat} {rest : List Micro} (h : delaysAwaited (.delay us :: rest) = true) :
    ∃ rest', rest = .wait :: rest' := by
  cases rest with
  | nil => cases h
  | cons m' rest' => exact ⟨rest', by rw [beq_iff_eq.1 (Bool.and_eq_true_iff.1 h).1]⟩

theorem dly_eq_zero_of_delayCounter {s : State} (h : DelayCounter s) (hw : ∀ k rest, s.seq ≠ .run k (.wait :: rest)) :
    s.dly = 0 :=
  h.1.resolve_right fun ⟨k, rest, hs⟩ => hw k rest hs

/-- After a line the lines still to do are those that stood after it, if the command goes on. -/
theorem State.todo_micro {s : State} {k k' : Nat} {m : Micro} {rest todo : List Micro} (hs : s.seq = .run k (m :: rest))
    (hs' : (s.micro m).seq = .run k' todo) : todo = rest := by
  rcases s.micro_seq hs with hb | ⟨k'', h, -⟩
  · simp [State.busy, hs'] at hb
  · rw [hs'] at h
    cases h
    rfl

theorem delayCounter_line {s : State} {k : Nat} {m : Micro} {rest : List Micro} (hs : s.seq = .run k (m :: rest))
    (h : DelayCounter s) : DelayCounter (s.micro m) := by
  have hawait : delaysAwaited (m :: rest) = true := h.2 k _ hs
  refine ⟨?_, fun k' todo hs' => State.todo_micro hs hs' ▸ delaysAwaited_tail hawait⟩
  by_cases hw : m = .wait
  · subst hw
    exact .inl (runDown_eq_zero _)
  · by_cases hd : ∃ us, m = .delay us
    · obtain ⟨us, rfl⟩ := hd
      obtain ⟨rest', rfl⟩ := wait_after_delay hawait
      exact .inr ⟨k, rest', by simp [State.micro, hs]⟩
    · refine .inl ?_
      rw [s.micro_dly (not_exists.1 hd) hw]
      exact dly_eq_zero_of_delayCounter h fun k' rest' hs' => hw (by rw [hs] at hs'; cases hs'; rfl)

theorem delayCounter_keptByMoves : KeptByMoves DelayCounter where
  reset s := ⟨.inl rfl, fun _ _ h => by cases h⟩
  ports _ _ h := h
  pinWrite _ _ _ h := h
  accept i plan s h hs hp := by
    have hdly : s.dly = 0 := dly_eq_zero_of_delayCounter h fun k rest hw => by rw [hs] at hw; cases hw
    refine ⟨.inl hdly, fun k todo ht => ?_⟩
    cases ht
    exact (planOf_wellBuilt hp).awaited
  line _ _ _ _ hs h := delayCounter_line hs h
  tick s k rest hs h := ⟨.inr ⟨k, rest, hs⟩, h.2⟩

/-- The count loaded is the least one that lasts long enough (60_exceptions.md R293). -/
theorem delayTicks_bounds (us : Nat) :
    us * clkHz ≤ delayTicks us * 1000000 ∧ delayTicks us * 1000000 < us * clkHz + 1000000 := by
  unfold delayTicks
  generalize us * clkHz = n
  omega

theorem step_of_delay {s : State} {k us : Nat} {rest : List Micro} (hrst : s.rst = false)
    (hs : s.seq = .run k (.delay us :: rest)) :
    step s = .next { s with
      rspValid := false, dly := delayTicks us, trace := s.trace ++ [.delay us], seq := .run k rest } := by
  rw [step_of_line hrst hs]
  simp [State.microTick, State.micro, hs]

theorem step_of_wait {s : State} {k : Nat} {rest : List Micro} (hrst : s.rst = false)
    (hs : s.seq = .run k (.wait :: rest)) :
    step s = .next (if s.dly = 0 then { s with rspValid := false, seq := .run (k + 1) rest }
      else { s with rspValid := false, dly := s.dly - 1 }) := by
  rw [step_of_line hrst hs]
  simp [State.microTick, State.advance, hs]

/-- Settles O23: every move of a step keeps the counter's invariant; the count loaded and the run down are the steps at
a delay and at a wait. -/
theorem delayCounterKept : Obligations.DelayCounterKept := by
  refine ⟨fun _ _ => delayCounter_keptByMoves.step, delayCounter_keptByMoves.accept, ?_,
    fun s k rest hrst hs => step_of_wait hrst hs⟩
  intro s k us rest hrst hs
  exact ⟨_, step_of_delay hrst hs, rfl, delayTicks_bounds us⟩

/-! ### The bound on `RUN(step)` (O24) -/

section CommandWord
variable (op : BitVec 4) (opd : Operand) (a d : Byte) (ign : BitVec 15) (en : Bool)

@[simp] theorem opField_commandOf : opField (commandOf op opd) = op :=
  BitVec.extractLsb'_append_eq_left

@[simp] theorem opdField_commandOf : opdField (commandOf op opd) = opd :=
  BitVec.extractLsb'_append_eq_right

@[simp] theorem hiByte_append : hiByte (a ++ d) = a :=
  BitVec.extractLsb'_append_eq_left

@[simp] theorem loByte_append : loByte (a ++ d) = d :=
  BitVec.extractLsb'_append_eq_right

end CommandWord

/-- The word `CMD` latches is the command's (10_state.md R22, 30_encoding.md R116). -/
theorem decodeCommand_commandWord {i : Instr} (h : IsCommand i) : decodeCommand (commandWord i) = i := by
  cases i with
  | setVfpga ign en =>
    have hen : (ign ++ BitVec.ofBool en).getLsbD 0 = en := by rw [BitVec.getLsbD_append]; cases en <;> rfl
    have hign : (ign ++ BitVec.ofBool en).extractLsb' 1 15 = ign := BitVec.extractLsb'_append_eq_left
    simp only [commandWord, encode, decodeCommand, opField_commandOf, opdField_commandOf]
    exact congrArg₂ Instr.setVfpga hign hen
  | i2cRegWrite | i2cRegRead | spiWake | spiResetEnable | spiResetConfirm | spiIdentify | spiEraseEnable | spiChipErase
  | spiStatus => cases h
  | _ => simp [commandWord, encode, decodeCommand]

/-- A command is not through its lines before it completes (10_state.md R27). -/
theorem rest_ne_nil_of_onPlan {s : State} {k k' : Nat} {m : Micro} {rest : List Micro} (h : OnPlan s)
    (hs : s.seq = .run k (m :: rest)) (hs' : (s.micro m).seq = .run k' rest) : rest ≠ [] := by
  rintro rfl
  obtain ⟨plan, hp, pre, rfl⟩ := h k _ hs
  obtain ⟨r, hr⟩ := (planOf_wellBuilt hp).completes
  obtain rfl : m = .complete r := by simpa using hr
  cases hs'

theorem onPlan_line {s : State} {k : Nat} {m : Micro} {rest : List Micro} (hs : s.seq = .run k (m :: rest))
    (h : OnPlan s) : OnPlan (s.micro m) := by
  intro k' todo hs'
  obtain rfl := State.todo_micro hs hs'
  obtain ⟨plan, hp, hsuf⟩ := h k _ hs
  exact ⟨plan, by rwa [s.micro_cmd m], (List.suffix_cons m _).trans hsuf⟩

/-- Acceptance latches the command whose lines it begins (10_state.md R22, R26). -/
theorem onPlan_accept {i : Instr} {plan : List Micro} (hp : planOf i = some plan) (s : State) :
    OnPlan (s.accept (commandWord i) plan) := by
  intro k todo hs
  cases hs
  refine ⟨plan, ?_, List.suffix_rfl⟩
  rw [State.accept_cmd, decodeCommand_commandWord (isCommand_of_planOf hp), hp]

theorem runBounded_line {s : State} {k : Nat} {m : Micro} {rest : List Micro} (hs : s.seq = .run k (m :: rest))
    (h : RunBounded s) : RunBounded (s.micro m) := by
  obtain ⟨hplan, hbound⟩ := h
  refine ⟨onPlan_line hs hplan, fun k' todo hs' => ?_⟩
  obtain rfl := State.todo_micro hs hs'
  refine ⟨rest_ne_nil_of_onPlan hplan hs hs', ?_⟩
  rcases s.micro_seq hs with hb | ⟨k'', hs'', hcount⟩
  · simp [State.busy, hs'] at hb
  · rw [hs'] at hs''
    cases hs''
    rw [hcount]
    exact (hbound k _ hs).2

theorem runBounded_keptByMoves : KeptByMoves RunBounded where
  reset s := ⟨nofun, nofun⟩
  ports _ _ h := h
  pinWrite _ _ _ h := h
  accept i plan s _ _ hp := by
    refine ⟨onPlan_accept hp s, fun k todo hs => ?_⟩
    cases hs
    obtain ⟨⟨r, hr⟩, -, hbound⟩ := planOf_wellBuilt hp
    exact ⟨(by rintro rfl; cases hr), by simpa using hbound s.spiInit⟩
  line _ _ _ _ hs h := runBounded_line hs h
  tick _ _ _ _ h := h

/-- Settles O24: every move of a step keeps the bound, a line because it counts the micro-steps it takes. -/
theorem runBoundedKept : Obligations.RunBoundedKept :=
  ⟨fun _ _ => runBounded_keptByMoves.step, runBounded_keptByMoves.accept⟩

/-! ### The two granularities (O16) -/

/-- Steps that answer a state are followed by the steps from that state. -/
theorem core_run_add {s t : State} (a b : Nat) (h : Host.Core.run Sys2Proof.core a s = .next t) :
    Host.Core.run Sys2Proof.core (a + b) s = Host.Core.run Sys2Proof.core b t := by
  induction a generalizing s with
  | zero => cases h; rw [Nat.zero_add]
  | succ a ih =>
    rw [Nat.add_right_comm]
    simp only [Host.Core.run] at h ⊢
    split at h
    next u hu => exact ih h
    next => cases h
    next => cases h

theorem core_run_one (s : State) : Host.Core.run Sys2Proof.core 1 s = step s := by
  simp only [Host.Core.run]
  split
  next hu => exact hu.symm
  next hu => exact hu.symm
  next hu => exact hu.symm

/-- Without an old pulse to end, a step at a line is the line. -/
theorem core_run_line {s : State} {k : Nat} {m : Micro} {rest : List Micro} (hrst : s.rst = false)
    (hrv : s.rspValid = false) (hs : s.seq = .run k (m :: rest)) :
    Host.Core.run Sys2Proof.core 1 s = .next (s.microTick m) := by
  have hpulse : { s with rspValid := false } = s := by rw [← hrv]
  have hstep : step s = .next (s.microTick m) := by rw [step_of_line hrst hs, hpulse]
  exact (core_run_one s).trans hstep

/-- One clock after another takes the counter down to zero and then past the wait (60_exceptions.md R293). -/
theorem wait_reached (n : Nat) {s : State} {k : Nat} {rest : List Micro} (hd : s.dly = n) (hrst : s.rst = false)
    (hrv : s.rspValid = false) (hs : s.seq = .run k (.wait :: rest)) :
    Host.Core.run Sys2Proof.core (n + 1) s = .next (s.micro .wait) := by
  have hline := core_run_line hrst hrv hs
  induction n generalizing s with
  | zero => rwa [State.microTick_wait_of_zero hd] at hline
  | succ n ih =>
    rw [State.microTick_wait_of_ne_zero (by omega)] at hline
    rw [Nat.add_comm (n + 1) 1, core_run_add 1 (n + 1) hline]
    have hdec : s.dly - 1 = n := by omega
    exact (ih (s := { s with dly := s.dly - 1 }) hdec hrst hrv hs (core_run_line hrst hrv hs)).trans
      (by simp [State.micro])

/-- The machine's steps do each line as the command does. -/
theorem line_reached {s : State} {k : Nat} {m : Micro} {rest : List Micro} (hrst : s.rst = false)
    (hrv : s.rspValid = false) (hs : s.seq = .run k (m :: rest)) :
    ∃ n, Host.Core.run Sys2Proof.core n s = .next (s.micro m) := by
  by_cases hm : m = .wait
  · subst hm
    exact ⟨s.dly + 1, wait_reached _ rfl hrst hrv hs⟩
  · have hline := core_run_line hrst hrv hs
    rw [State.microTick_of_ne_wait s hm] at hline
    exact ⟨1, hline⟩

/-- A line that goes on gives no pulse (10_state.md R27). -/
theorem State.micro_rspValid_of_busy {s : State} {m : Micro} (hb : (s.micro m).busy = true) :
    (s.micro m).rspValid = s.rspValid := by
  rcases s.micro_complete_or_noCompletion m with ⟨r, h⟩ | h
  · rw [h] at hb; cases hb
  · exact h.rspValid

/-- The machine's steps do a command's lines as the command does. -/
theorem runLines_reached {todo : List Micro} {s : State} {k : Nat} (hrst : s.rst = false) (hrv : s.rspValid = false)
    (hs : s.seq = .run k todo) : ∃ n, Host.Core.run Sys2Proof.core n s = .next (s.runLines todo) := by
  induction todo generalizing s k with
  | nil => exact ⟨0, rfl⟩
  | cons m rest ih =>
    obtain ⟨a, ha⟩ := line_reached hrst hrv hs
    rw [State.runLines_cons]
    rcases s.micro_seq hs with hb | ⟨k', hs', -⟩
    · exact ⟨a, by rw [ha, State.andThen_ended _ _ hb]⟩
    · have hb : (s.micro m).busy = true := (State.busy_iff _).2 ⟨k', rest, hs'⟩
      obtain ⟨b, hb'⟩ := ih (by rwa [s.micro_rst m]) (by rwa [State.micro_rspValid_of_busy hb]) hs'
      exact ⟨a + b, by rw [core_run_add a b ha, hb', State.andThen_busy _ _ hb]⟩

/-- Settles O16: the fine steps from acceptance do one line after another. -/
theorem commandIsItsMicroSteps : Obligations.CommandIsItsMicroSteps := by
  intro i plan s hp hrst hs
  rw [exec_command hp, s.command_idle i plan hs]
  exact runLines_reached hrst rfl (s.accept_seq _ _)

/-! ### The frame of a command (O28) -/

/-- What acceptance keeps, and what each of the command's lines keeps, its meaning keeps. -/
theorem exec_keeps {P : State → Prop} {i : Instr} {s t : State} (hi : IsCommand i) (he : exec i s = .next t)
    (ha : ∀ w plan, P s → P (s.accept w plan)) (hline : ∀ u m, lineKind m ∈ lineKinds i → P u → P (u.micro m))
    (h : P s) : P t := by
  obtain ⟨plan, hp⟩ := planOf_of_isCommand hi
  rw [exec_command hp] at he
  cases he
  by_cases hs : s.seq = .idle
  · exact State.command_induction hs (ha _ _ h) fun u _ m _ hsuf _ =>
      hline u m (lineKind_mem hp (hsuf.subset List.mem_cons_self))
  · rwa [s.command_not_idle i plan hs]

/-- The kinds of lines a command has not. -/
theorem bringUp_notMem_lineKinds {i : Instr} (h : ∀ g, i ≠ .init g) : .bringUp ∉ lineKinds i := by
  cases i with
  | init g => exact absurd rfl (h g)
  | _ => simp [lineKinds]

theorem pin_notMem_lineKinds {i : Instr} (h : ∀ g, i ≠ .fpgaHold g) : .pin ∉ lineKinds i := by
  cases i with
  | fpgaHold g => exact absurd rfl (h g)
  | _ => simp [lineKinds]

theorem store_notMem_lineKinds {i : Instr} (hrd : ∀ a g, i ≠ .i2cRd a g) (hbusy : ∀ g, i ≠ .flBusy g) :
    .store ∉ lineKinds i := by
  cases i with
  | i2cRd a g => exact absurd rfl (hrd a g)
  | flBusy g => exact absurd rfl (hbusy g)
  | _ => simp [lineKinds]

theorem flash_notMem_lineKinds {i : Instr} (h : ¬ IsFlashCommand i) : .flash ∉ lineKinds i := by
  cases i with
  | flWake | flReset | flIdent | flErase | flBusy => exact absurd (by simp [IsFlashCommand]) h
  | _ => simp [lineKinds]

/-- Settles O28: each part of the state changes in the lines about it only, and a command has lines about its own parts
only. -/
theorem commandFrame : Obligations.CommandFrame := by
  intro i s t hi he
  have hkind : ∀ {k m}, k ∉ lineKinds i → lineKind m ∈ lineKinds i → lineKind m ≠ k :=
    fun hk hm => ne_of_mem_of_not_mem hm hk
  refine ⟨?_, fun h => ?_, fun h => ?_, fun hrd hbusy => ?_, fun h => ?_⟩
  · refine exec_keeps (P := fun u => u.inputs = s.inputs ∧ u.script = s.script ∧ u.rst = s.rst) hi he
      (fun _ _ h => h) (fun u m _ h => ?_) ⟨rfl, rfl, rfl⟩
    simpa using h
  · refine exec_keeps (P := fun u => u.i2cEn = s.i2cEn ∧ u.cfgRst = s.cfgRst ∧ u.cfgDone = s.cfgDone) hi he
      (fun _ _ h => h) (fun u m hm hu => ?_) ⟨rfl, rfl, rfl⟩
    obtain ⟨hen, hrst, hdone⟩ := u.micro_bringUp (hkind (bringUp_notMem_lineKinds h) hm)
    rwa [hen, hrst, hdone]
  · refine exec_keeps (P := fun u => u.pinRst = s.pinRst) hi he (fun _ _ h => h) (fun u m hm hu => ?_) rfl
    rwa [u.micro_pinRst (hkind (pin_notMem_lineKinds h) hm)]
  · refine exec_keeps (P := fun u => u.rdata = s.rdata) hi he (fun _ _ h => h) (fun u m hm hu => ?_) rfl
    rwa [u.micro_rdata (hkind (store_notMem_lineKinds hrd hbusy) hm)]
  · refine exec_keeps (P := fun u => u.spiInit = s.spiInit ∧ u.tx = s.tx ∧ u.rx = s.rx ∧ u.len = s.len ∧ u.dly = s.dly)
      hi he (fun _ _ h => h) (fun u m hm hu => ?_) ⟨rfl, rfl, rfl, rfl, rfl⟩
    obtain ⟨hinit, htx, hrx, hlen, hdly⟩ := u.micro_flash (hkind (flash_notMem_lineKinds h) hm)
    rwa [hinit, htx, hrx, hlen, hdly]

/-! ### The abort of a command (O53) -/

/-- A command with lines about the flash can abort on the SPI bus, one with lines about a register on the I2C bus
(60_exceptions.md R271). -/
theorem abortBus_of_flash {i : Instr} (h : .flash ∈ lineKinds i) : abortBus i = some .spi := by
  cases i with
  | flWake | flReset | flIdent | flErase | flBusy => rfl
  | _ => simp [lineKinds] at h

theorem abortBus_of_register {i : Instr} (h : .register ∈ lineKinds i) : abortBus i = some .i2c := by
  cases i with
  | i2cRd | i2cWr | setVaux | setVio | setVfpga | init => rfl
  | _ => simp [lineKinds] at h

theorem abortBus_of_transfer {i : Instr} {x : Transfer} (h : lineKind (.xfer x) ∈ lineKinds i) :
    abortBus i = some (transferBus x) := by
  rw [lineKind_xfer] at h
  unfold transferBus
  split
  next hx => rw [if_pos hx] at h; exact abortBus_of_flash h
  next hx => rw [if_neg hx] at h; exact abortBus_of_register h

/-- No transfer follows a store to `RDATA` in a command's lines (41_bus_transport.md R153, 43_flash.md R229). -/
theorem no_transfer_after_store {i : Instr} {plan : List Micro} (hp : planOf i = some plan) {m : Micro}
    {rest : List Micro} (hsuf : m :: rest <:+ plan) (hm : lineKind m = .store) (x : Transfer) : .xfer x ∉ rest := by
  have hmem := lineKind_mem hp (hsuf.subset List.mem_cons_self)
  rw [hm] at hmem
  cases i with
  | i2cRd a ign =>
    cases hp
    simp only [planI2cRd, List.suffix_cons_iff, List.cons.injEq, List.suffix_nil, reduceCtorEq, or_false] at hsuf
    rcases hsuf with ⟨rfl, -⟩ | ⟨-, rfl⟩ | ⟨-, rfl⟩
    · cases hm
    · simp
    · simp
  | flBusy ign =>
    cases hp
    simp only [planFlBusy, List.suffix_cons_iff, List.cons.injEq, List.suffix_nil, reduceCtorEq, or_false] at hsuf
    rcases hsuf with ⟨rfl, -⟩ | ⟨-, rfl⟩ | ⟨-, rfl⟩
    · cases hm
    · simp
    · simp
  | _ => simp [lineKinds] at hmem

/-- From the one state to the other a transfer on the bus `c` failed, last, and nothing completed (60_exceptions.md R283
to R285). -/
structure Aborted (c : Bus) (s t : State) : Prop where
  status : t.status = s.status
  rdata : t.rdata = s.rdata
  rspValid : t.rspValid = s.rspValid
  trace : ∃ evs f, t.trace = s.trace ++ (evs ++ [f, .fatal c]) ∧ (c = .i2c → ∃ k a, f = .i2cFail k a) ∧
    (c = .spi → ∃ tx, f = .spiFail tx) ∧ ∀ w r d, Event.complete w r d ∉ evs

/-- A transfer that leaves the block in `FATAL` aborted on its own bus. -/
theorem State.transfer_aborted {s : State} {x : Transfer} (hs : s.seq ≠ .fatal) (hf : (s.transfer x).seq = .fatal) :
    Aborted (transferBus x) s (s.transfer x) := by
  obtain ⟨failed, evs, ht, hfail, htr⟩ := s.transfer_events x
  cases hfail hf hs
  obtain ⟨f, rfl, hi2c, hspi⟩ := ht.events_of_failed
  refine ⟨s.transfer_status x, s.transfer_rdata x, s.transfer_rspValid x, _, f, htr, hi2c, hspi, fun w r d h => ?_⟩
  cases eq_spiInit_of_mem h

/-- An abort after lines that completed nothing and stored nothing. -/
theorem NoCompletion.aborted {s t u : State} {c : Bus} (h : NoCompletion s t) (hd : t.rdata = s.rdata)
    (ha : Aborted c t u) : Aborted c s u := by
  obtain ⟨hst, hrv, evs, htr, hno⟩ := h
  obtain ⟨hst', hd', hrv', evs', f, htr', hi2c, hspi, hno'⟩ := ha
  exact ⟨hst'.trans hst, hd'.trans hd, hrv'.trans hrv, evs ++ evs', f, by simp [htr', htr], hi2c, hspi,
    by simp [hno, hno']⟩

/-- Since the state `s` a command in progress has completed nothing, and `RDATA` is as it was, or the command has no
transfer left that could abort it. -/
def OnItsWay (s t : State) : Prop :=
  NoCompletion s t ∧ ∀ k todo, t.seq = .run k todo → t.rdata = s.rdata ∨ ∀ x, Micro.xfer x ∉ todo

theorem onItsWay_line {i : Instr} {plan : List Micro} (hp : planOf i = some plan) {s t : State} {k : Nat} {m : Micro}
    {rest : List Micro} (hsuf : m :: rest <:+ plan) (hs : t.seq = .run k (m :: rest)) (h : OnItsWay s t)
    (hb : (t.micro m).busy = true) : OnItsWay s (t.micro m) := by
  obtain ⟨hno, hd⟩ := h
  rcases t.micro_complete_or_noCompletion m with ⟨r, hr⟩ | hno'
  · rw [hr] at hb; cases hb
  refine ⟨hno.trans hno', fun k' todo hs' => ?_⟩
  obtain rfl := State.todo_micro hs hs'
  by_cases hm : lineKind m = .store
  · exact .inr (no_transfer_after_store hp hsuf hm)
  · rw [t.micro_rdata hm]
    exact (hd k _ hs).imp id fun hx x hmem => hx x (List.mem_cons_of_mem _ hmem)

theorem onItsWay_abort {i : Instr} {plan : List Micro} (hp : planOf i = some plan) {s t : State} {k : Nat} {m : Micro}
    {rest : List Micro} (hsuf : m :: rest <:+ plan) (hs : t.seq = .run k (m :: rest)) (h : OnItsWay s t)
    (hf : (t.micro m).seq = .fatal) : ∃ c, abortBus i = some c ∧ Aborted c s (t.micro m) := by
  obtain ⟨x, rfl⟩ := State.micro_fatal hs hf
  obtain ⟨hno, hd⟩ := h
  have hrdata : t.rdata = s.rdata := (hd k _ hs).resolve_right fun hx => hx x List.mem_cons_self
  exact ⟨transferBus x, abortBus_of_transfer (lineKind_mem hp (hsuf.subset List.mem_cons_self)),
    hno.aborted hrdata (State.transfer_aborted (by rw [hs]; nofun) hf)⟩

/-- Since the state `s` the lines of `i` are on their way, or one of their transfers aborted. -/
def OnItsWayOrAborted (i : Instr) (s t : State) : Prop :=
  (t.busy = true → OnItsWay s t) ∧ (t.seq = .fatal → ∃ c, abortBus i = some c ∧ Aborted c s t)

/-- A command's lines that end in `FATAL` aborted, on the command's own bus. -/
theorem runLines_aborted {i : Instr} {plan : List Micro} {s : State} {k : Nat} (hp : planOf i = some plan)
    (hs : s.seq = .run k plan) (hf : (s.runLines plan).seq = .fatal) :
    ∃ c, abortBus i = some c ∧ Aborted c s (s.runLines plan) := by
  have hstart : OnItsWayOrAborted i s s :=
    ⟨fun _ => ⟨⟨rfl, rfl, [], by simp, by simp⟩, fun _ _ _ => .inl rfl⟩, fun h => by rw [hs] at h; cases h⟩
  have hend : OnItsWayOrAborted i s (s.runLines plan) := by
    refine State.runLines_induction (fun t k m rest hsuf ht h => ?_) List.suffix_rfl hs hstart
    have hway : OnItsWay s t := h.1 ((State.busy_iff t).2 ⟨k, _, ht⟩)
    exact ⟨onItsWay_line hp hsuf ht hway, onItsWay_abort hp hsuf ht hway⟩
  exact hend.2 hf

/-- Settles O53: the abort of a command is that of one of its transfers, after lines that stored and completed
nothing. -/
theorem abortKeepsResults : Obligations.AbortKeepsResults := by
  intro i s t hi hs he hf
  obtain ⟨plan, hp⟩ := planOf_of_isCommand hi
  rw [exec_command hp, s.command_idle i plan hs] at he
  cases he
  obtain ⟨c, hc, hst, hd, hrv, evs, f, htr, hi2c, hspi, hno⟩ := runLines_aborted hp (s.accept_seq _ _) hf
  exact ⟨hst, hd, hrv, .accept (commandWord i) :: evs, f, c, hc, by simp [htr], hi2c, hspi, by simpa using hno⟩

/-! ### The offered command and reset (O10, O17, O18) -/

/-- Settles O10: the step of an idle block with a command offered. -/
theorem stepRunsOfferedCommand : Obligations.StepRunsOfferedCommand :=
  fun _ _ _ hrst hs hi => step_of_command hrst hs hi

/-- A rail whose control register is unknown is in an unknown state (42_pmic_rails.md R197). -/
theorem railOf_of_unlisted {m : Memory} {r : Rail} (h : Memory.read m (railControl r) = none) :
    railOf m r = .unknown := by
  simp [railOf, h]

/-- Settles O17: each register by its reset value, the ports and the rails by what they are read off. -/
theorem resetValues : Obligations.ResetValues :=
  ⟨rfl, rfl, rfl, rfl, rfl, rfl, rfl, rfl, rfl, rfl, rfl, rfl, rfl, rfl, fun _ => rfl,
    fun _ => railOf_of_unlisted rfl⟩

/-- No command is in progress after reset. -/
theorem reset_not_run {k : Nat} {todo : List Micro} : State.reset.seq ≠ .run k todo := nofun

theorem onPlan_reset : OnPlan State.reset := fun _ _ h => absurd h reset_not_run

/-- Settles O18: the trace is empty after reset, and no command is in progress. -/
theorem invariantsAtReset : Obligations.InvariantsAtReset := by
  refine ⟨⟨rfl, reset_memory_wf⟩, rfl, bringUpFlags_keptByMoves.reset State.reset,
    latchAndLength_keptByMoves.reset State.reset, delayCounter_keptByMoves.reset State.reset,
    runBounded_keptByMoves.reset State.reset, ?_, nofun, fun _ _ _ => List.not_mem_nil, onPlan_reset⟩
  intro pre e e' post m h
  simp [State.reset] at h

end Sys2Proof.Machine

/-! ## Proofs of the family 20_memory.md: the protocol of the trace (O20), its growth (O26), the reach of a command (O27),
the frame of `pmic_w` (O29), the two premises on the devices (O59, O60), commands not accepted (O15)

Each is a property of one line, carried along a command's lines by the inductions above. The premises are read off the
events a completed command adds, which stand at the end of the trace. -/

namespace Sys2Proof.Machine

open Sys2Proof.Safety

/-! ### Commands not accepted (O15) -/

/-- Settles O15: a command's meaning is `State.command`, which needs an idle block. -/
theorem commandNeedsIdle : Obligations.CommandNeedsIdle := by
  intro i s hi hs
  obtain ⟨plan, hp⟩ := planOf_of_isCommand hi
  rw [exec_command hp, s.command_not_idle i plan hs]

/-- What holds of the state a command is given to, whether it is accepted or not, and is kept by each of its lines, its
meaning keeps. -/
theorem exec_command_induction {P : State → Prop} {i : Instr} {plan : List Micro} {s t : State}
    (hp : planOf i = some plan) (he : exec i s = .next t) (h : P s) (ha : P (s.accept (commandWord i) plan))
    (hline : ∀ u m, m ∈ plan → P u → P (u.micro m)) : P t := by
  rw [exec_command hp] at he
  cases he
  by_cases hs : s.seq = .idle
  · exact State.command_induction hs ha fun u _ m _ hsuf _ => hline u m (hsuf.subset List.mem_cons_self)
  · rwa [s.command_not_idle i plan hs]

/-! ### A register access: done, or failed -/

/-- A register write is done, or fails and leaves nothing known of the register (41_bus_transport.md R151, R155,
20_memory.md R75). -/
theorem State.memWrite_cases (s : State) (a d : Byte) :
    (∃ asked, s.memWrite a d = { s with
      pmicW := Memory.write s.pmicW a d, asked := asked, seq := s.seq.pop 1, trace := s.trace ++ [.i2cWr a d] }) ∨
    (∃ asked, s.memWrite a d = { s with
      pmicW := Memory.forget s.pmicW a, asked := asked, seq := .fatal,
      trace := s.trace ++ [.i2cFail .wr a, .fatal .i2c] }) := by
  rcases Bool.eq_false_or_eq_true s.i2cEn with he | he
  · rcases Bool.eq_false_or_eq_true (s.answer 0).ok with hk | hk
    · exact .inl ⟨_, s.memWrite_ok a d he hk⟩
    · exact .inr ⟨_, s.memWrite_fail a d he hk⟩
  · exact .inr ⟨_, s.memWrite_disabled a d he⟩

/-- A register read is done and its byte kept in `ret`, or fails (41_bus_transport.md R150, R155). -/
theorem State.memRead_cases (s : State) (a : Byte) :
    (∃ d asked, s.memRead a = { s with
      ret := d, asked := asked, seq := s.seq.pop 1, trace := s.trace ++ [.i2cRd a d] }) ∨
    (∃ asked, s.memRead a = { s with
      asked := asked, seq := .fatal, trace := s.trace ++ [.i2cFail .rd a, .fatal .i2c] }) := by
  rcases Bool.eq_false_or_eq_true s.i2cEn with he | he
  · rcases Bool.eq_false_or_eq_true (s.answer 0).ok with hk | hk
    · exact .inl ⟨_, _, s.memRead_ok a he hk⟩
    · exact .inr ⟨_, s.memRead_fail a he hk⟩
  · exact .inr ⟨_, s.memRead_disabled a he⟩

/-! ### The protocol of the trace (O20) -/

theorem phaseFrom_append (p : Phase) (xs ys : List Event) :
    phaseFrom p (xs ++ ys) = (phaseFrom p xs).bind fun q => phaseFrom q ys := by
  induction xs generalizing p with
  | nil => rfl
  | cons e rest ih => simp [phaseFrom, ih, Option.bind_assoc]

section PhaseOf
variable {s : State}

theorem phaseOf_idle (h : s.seq = .idle) : phaseOf s = .between := by simp [phaseOf, h]

theorem phaseOf_run {k : Nat} {todo : List Micro} (h : s.seq = .run k todo) : phaseOf s = .inside s.cmd := by
  simp [phaseOf, h]

theorem phaseOf_fatal (h : s.seq = .fatal) : phaseOf s = .dead := by simp [phaseOf, h]

end PhaseOf

/-- From the one state to the other the trace grew by events that may stand there, and they lead to the phase the
sequencer says. -/
def FollowsProtocol (s t : State) : Prop :=
  ∃ evs, t.trace = s.trace ++ evs ∧ phaseFrom (phaseOf s) evs = some (phaseOf t)

theorem FollowsProtocol.traceProtocol {s t : State} (h : FollowsProtocol s t) (hs : TraceProtocol s) :
    TraceProtocol t := by
  obtain ⟨evs, htr, hph⟩ := h
  rw [TraceProtocol, htr, phaseFrom_append, show phaseFrom .between s.trace = _ from hs]
  exact hph

/-- A transaction stands inside its command; a failed one is followed by `Fatal` and ends it (60_exceptions.md R283). -/
theorem Transaction.phaseFrom_inside {c : Bus} {failed : Bool} {evs : List Event} (h : Transaction c failed evs)
    (w : Word) : phaseFrom (.inside w) evs = some (if failed then .dead else .inside w) := by
  cases h with
  | i2cFailed k a => cases k <;> rfl
  | _ => rfl

/-- So does the SPI initialisation before the first frame (41_bus_transport.md R152). -/
theorem phaseFrom_spiInitEvents (s : State) (w : Word) (evs : List Event) :
    phaseFrom (.inside w) (spiInitEvents s ++ evs) = phaseFrom (.inside w) evs := by
  unfold spiInitEvents
  split <;> rfl

/-- After a transaction of a command in progress the sequencer says what the transaction's events do. -/
theorem phaseOf_seqAfter {t : State} {failed : Bool} {k : Nat} {todo : List Micro}
    (h : t.seq = seqAfter failed (.run k todo)) : phaseOf t = if failed then .dead else .inside t.cmd := by
  cases failed with
  | true => exact phaseOf_fatal h
  | false => exact phaseOf_run h

theorem State.transfer_followsProtocol {s : State} {k : Nat} {todo : List Micro} (hs : s.seq = .run k todo)
    (x : Transfer) : FollowsProtocol s (s.transfer x) := by
  cases hx : isFrame x with
  | false =>
    obtain ⟨_, _, _, failed, evs, htrans, h⟩ := s.transfer_register hx
    refine ⟨evs, by rw [h], ?_⟩
    rw [phaseOf_run hs, htrans.phaseFrom_inside, phaseOf_seqAfter (t := s.transfer x) (by rw [h, hs]), s.transfer_cmd]
  | true =>
    obtain ⟨tx, -, -, hf⟩ := s.transfer_frame hx
    obtain ⟨_, failed, evs, htrans, h⟩ := s.spiXfer_cases tx
    have hseq : ∃ k', (s.transfer x).seq = seqAfter failed (.run k' todo) := by
      rw [hf, h, hs]
      cases s.spiInit with
      | true => exact ⟨k, rfl⟩
      | false => exact ⟨k + 1, rfl⟩
    obtain ⟨k', hseq⟩ := hseq
    refine ⟨spiInitEvents s ++ evs, by rw [hf, h], ?_⟩
    rw [phaseOf_run hs, phaseFrom_spiInitEvents, htrans.phaseFrom_inside, phaseOf_seqAfter hseq, s.transfer_cmd]

/-- A completion stands inside its command, with the command's own word (10_state.md R27). -/
theorem phaseAfter_complete (w : Word) (r : Result) (d : Byte) :
    phaseAfter (.inside w) (.complete w r d) = some .between := if_pos rfl

theorem State.complete_followsProtocol {s : State} {k : Nat} {todo : List Micro} (hs : s.seq = .run k todo)
    (r : Result) : FollowsProtocol s (s.complete r) := by
  refine ⟨_, rfl, ?_⟩
  rw [phaseOf_run hs, phaseOf_idle (s.complete_seq r), phaseFrom, phaseAfter_complete]
  rfl

/-- A line that goes on may add events that stand inside a command. -/
theorem FollowsProtocol.of_pop {s t : State} {k n : Nat} {todo : List Micro} (hs : s.seq = .run k todo)
    (hseq : t.seq = s.seq.pop n) (hcmd : t.cmd = s.cmd) (evs : List Event) (htr : t.trace = s.trace ++ evs)
    (hph : phaseFrom (.inside s.cmd) evs = some (.inside s.cmd)) : FollowsProtocol s t := by
  rw [hs, Seq.pop_run] at hseq
  exact ⟨evs, htr, by rw [phaseOf_run hs, phaseOf_run hseq, hcmd, hph]⟩

theorem State.advance_followsProtocol {s : State} {k : Nat} {todo : List Micro} (hs : s.seq = .run k todo) :
    FollowsProtocol s (s.advance 0) :=
  .of_pop hs (s.advance_seq 0) rfl [] (by simp) rfl

theorem State.micro_followsProtocol {s : State} {k : Nat} {m : Micro} {rest : List Micro}
    (hs : s.seq = .run k (m :: rest)) : FollowsProtocol s (s.micro m) := by
  cases m with
  | xfer x => exact State.transfer_followsProtocol hs x
  | complete r => exact State.complete_followsProtocol hs r
  | checkInterlock =>
    simp only [State.micro]
    split
    · exact State.complete_followsProtocol hs _
    · exact State.advance_followsProtocol hs
  | checkId | checkCapacity =>
    simp only [State.micro]
    split
    · exact State.advance_followsProtocol hs
    · exact State.complete_followsProtocol hs _
  | storeByte | storeBusy | wait => exact .of_pop hs rfl rfl [] (by simp [State.micro]) rfl
  | _ => exact .of_pop hs rfl rfl [_] rfl rfl

theorem traceProtocol_keptByMoves : KeptByMoves TraceProtocol where
  reset _ := rfl
  ports _ _ h := h
  pinWrite s l hs h := by
    have hs' : (s.hostPinWrite l).seq = .idle := hs
    exact FollowsProtocol.traceProtocol ⟨[.pinSet l], rfl, by rw [phaseOf_idle hs, phaseOf_idle hs']; rfl⟩ h
  accept i plan s h hs _ :=
    FollowsProtocol.traceProtocol ⟨[.accept _], rfl, by rw [phaseOf_idle hs]; rfl⟩ h
  line _ _ _ _ hs h := (State.micro_followsProtocol hs).traceProtocol h
  tick _ _ _ _ h := h

/-- Settles O20: the events of every move of a step may stand where the trace is, and lead to the phase the sequencer
says then. -/
theorem traceProtocolKept : Obligations.TraceProtocolKept :=
  ⟨fun _ _ => traceProtocol_keptByMoves.step, traceProtocol_keptByMoves.accept⟩

/-! ### The growth of the trace (O26) -/

theorem NoCompletion.trace_prefix {s t : State} (h : NoCompletion s t) : s.trace <+: t.trace := by
  obtain ⟨evs, htr, -⟩ := h.trace
  exact ⟨evs, htr.symm⟩

theorem State.micro_trace_prefix (s : State) (m : Micro) : s.trace <+: (s.micro m).trace := by
  rcases s.micro_complete_or_noCompletion m with ⟨r, h⟩ | h
  · exact h ▸ List.prefix_append _ _
  · exact h.trace_prefix

theorem State.microTick_trace_prefix (s : State) (m : Micro) : s.trace <+: (s.microTick m).trace := by
  by_cases hm : m = .wait
  · subst hm
    simp only [State.microTick]
    split <;> exact List.prefix_rfl
  · rw [State.microTick_of_ne_wait s hm]
    exact s.micro_trace_prefix m

theorem exec_trace_prefix {i : Instr} {s t : State} (he : exec i s = .next t) : s.trace <+: t.trace := by
  rcases exec_cases i s with ⟨plan, -, h⟩ | ⟨x, -, h⟩ <;> rw [h] at he <;> cases he
  · exact State.command_keeps (P := fun u => s.trace <+: u.trace) i plan s
      (fun _ hu => hu.trans (List.prefix_append _ _)) (fun m u hu => hu.trans (u.micro_trace_prefix m)) List.prefix_rfl
  · exact (s.transfer_noCompletion x).trace_prefix

/-- Settles O26: without `rst` a step ends the pulse, does a host's act, or does a line. -/
theorem historyKept : Obligations.HistoryKept := by
  intro s t hrst ht
  cases hs : s.seq with
  | fatal => rw [step_of_fatal hrst hs] at ht; cases ht; exact List.prefix_rfl
  | idle =>
    rcases hi : s.inputs with _ | ⟨w | l, acts⟩
    · rw [step_of_no_input hrst hs hi] at ht; cases ht; exact List.prefix_rfl
    · rw [step_of_command hrst hs hi] at ht; exact (exec_trace_prefix ht :)
    · rw [step_of_pinWrite hrst hs hi] at ht; cases ht; exact List.prefix_append _ _
  | run k todo =>
    cases todo with
    | nil => rw [step_of_no_line hrst hs] at ht; cases ht; exact List.prefix_rfl
    | cons m rest =>
      rw [step_of_line hrst hs] at ht
      cases ht
      exact State.microTick_trace_prefix { s with rspValid := false } m

/-! ### The frame of `pmic_w` (O29) -/

theorem Memory.lookup_erase (m : Memory) (a b : Nat) :
    Memory.lookup (Memory.erase m a) b = if b = a then none else Memory.lookup m b := by
  induction m with
  | nil => exact (ite_self none).symm
  | cons e rest ih =>
    obtain ⟨k, v⟩ := e
    by_cases hka : k = a
    · subst hka
      have herase : Memory.erase ((k, v) :: rest) k = Memory.erase rest k := by simp [Memory.erase]
      rw [herase, ih]
      split
      next => rfl
      next hbk => exact (if_neg hbk).symm
    · have herase : Memory.erase ((k, v) :: rest) a = (k, v) :: Memory.erase rest a := by simp [Memory.erase, hka]
      simp only [herase, Memory.lookup, ih]
      split
      next hbk => subst hbk; exact (if_neg hka).symm
      next => rfl

/-- Forgotten after a failed write (20_memory.md R75, 42_pmic_rails.md R196). -/
theorem Memory.read_forget (m : Memory) (a b : Byte) :
    Memory.read (Memory.forget m a) b = if b = a then none else Memory.read m b := by
  simp only [Memory.read, Memory.forget, Memory.lookup_erase, BitVec.toNat_inj]

/-- A register write, done or failed, leaves what is known of the other registers. -/
theorem State.memWrite_read_ne (s : State) {a b : Byte} (d : Byte) (h : b ≠ a) :
    Memory.read (s.memWrite a d).pmicW b = Memory.read s.pmicW b := by
  rcases s.memWrite_cases a d with ⟨_, hw⟩ | ⟨_, hw⟩ <;> rw [hw]
  · exact Memory.read_write_ne _ d h
  · exact (Memory.read_forget _ a b).trans (if_neg h)

theorem State.memRead_pmicW (s : State) (a : Byte) : (s.memRead a).pmicW = s.pmicW := by
  rcases s.memRead_cases a with ⟨_, _, hr⟩ | ⟨_, hr⟩ <;> rw [hr]

/-- A transfer leaves what is known of every register but the one it writes. -/
theorem State.transfer_read_pmicW (s : State) {x : Transfer} {a : Byte} (h : ∀ d, x ≠ .regWrite a d) :
    Memory.read (s.transfer x).pmicW a = Memory.read s.pmicW a := by
  cases x with
  | regWrite b d => exact s.memWrite_read_ne d fun hab => h d (by rw [hab])
  | regRead b => exact congrArg (Memory.read · a) (s.memRead_pmicW b)
  | _ => exact congrArg (Memory.read · a) (s.spiXfer_pmicW _)

/-- So does a line. -/
theorem State.micro_read_pmicW (s : State) {m : Micro} {a : Byte} (h : ∀ d, m ≠ .xfer (.regWrite a d)) :
    Memory.read (s.micro m).pmicW a = Memory.read s.pmicW a := by
  cases m with
  | xfer x => exact s.transfer_read_pmicW fun d hx => h d (by rw [hx])
  | checkInterlock | checkId | checkCapacity => simp only [State.micro]; split <;> rfl
  | _ => rfl

/-- The lines of one rail write its control register, and its target register unless they disable it. -/
theorem mem_of_regWrite_mem_setRailLines {r : Rail} {mv : Operand} {code : Option Byte} {a d : Byte}
    (h : .xfer (.regWrite a d) ∈ setRailLines r mv code) :
    a ∈ if mv.toNat = 0 then [railControl r] else [railTarget r, railControl r] := by
  unfold setRailLines at h
  split
  next h0 => simp_all
  next h0 =>
    cases code with
    | none => simp [h0, planEnable] at h
    | some k =>
      simp only [h0, planEnable, if_false, List.mem_cons, Micro.xfer.injEq, Transfer.regWrite.injEq] at h
      simp only [List.mem_cons]
      tauto

/-- The registers a command's lines write are those it stores to. -/
theorem mem_storedRegs_of_regWrite {i : Instr} {plan : List Micro} (hp : planOf i = some plan) {a d : Byte}
    (h : .xfer (.regWrite a d) ∈ plan) : a ∈ storedRegs i := by
  cases i with
  | i2cWr b e => cases hp; simp_all [planI2cWr, storedRegs]
  | setVaux mv =>
    cases hp
    rw [planSetVaux_eq] at h
    simp only [storedRegs]
    split at h
    next => simp at h
    next hrej =>
      rw [if_neg hrej]
      rcases List.mem_append.1 h with hlock | hset
      · split at hlock <;> simp at hlock
      · exact mem_of_regWrite_mem_setRailLines hset
  | setVio mv =>
    cases hp
    rw [planSetVio_eq] at h
    simp only [storedRegs]
    split at h
    next => simp at h
    next hrej => rw [if_neg hrej]; exact mem_of_regWrite_mem_setRailLines h
  | setVfpga ign en =>
    cases hp
    cases en <;> simp [planSetVfpga, storedRegs] at h ⊢ <;> tauto
  | i2cRd | init => cases hp; simp [planI2cRd, planInit] at h
  | _ =>
    have hkind := lineKind_mem hp h
    simp [lineKinds, lineKind, isFrame] at hkind

/-- The register a bus row writes is the one it stores to. -/
theorem mem_storedRegs_of_instrTransfer {i : Instr} {a d : Byte} (h : instrTransfer i = some (.regWrite a d)) :
    a ∈ storedRegs i := by
  cases i with
  | i2cRegWrite b e => cases h; exact List.mem_singleton_self a
  | _ => cases h

/-- Settles O29: a line changes what is known of the register it writes, and a command's lines write the registers it
stores to. -/
theorem memoryFrame : Obligations.MemoryFrame := by
  intro i s t a he ha
  rcases exec_cases i s with ⟨plan, hp, -⟩ | ⟨x, hx, h⟩
  · refine exec_command_induction (P := fun u => Memory.read u.pmicW a = Memory.read s.pmicW a) hp he rfl rfl
      fun u m hm hu => (u.micro_read_pmicW fun d hd => ?_).trans hu
    exact ha (mem_storedRegs_of_regWrite hp (hd ▸ hm))
  · rw [h] at he
    cases he
    exact s.transfer_read_pmicW fun d hd => ha (mem_storedRegs_of_instrTransfer (hd ▸ hx))

/-! ### The reach of a command (O27) -/

/-- From the one state to the other the trace grew by events within the command's reach. -/
def AddsWithinReach (i : Instr) (s t : State) : Prop :=
  ∃ evs, t.trace = s.trace ++ evs ∧ ∀ e ∈ evs, WithinReach i e

theorem AddsWithinReach.refl (i : Instr) (s : State) : AddsWithinReach i s s := ⟨[], by simp, by simp⟩

theorem AddsWithinReach.trans {i : Instr} {s t u : State} (h : AddsWithinReach i s t) (h' : AddsWithinReach i t u) :
    AddsWithinReach i s u := by
  obtain ⟨evs, htr, hin⟩ := h
  obtain ⟨evs', htr', hin'⟩ := h'
  refine ⟨evs ++ evs', by rw [htr', htr, List.append_assoc], fun e he => ?_⟩
  exact (List.mem_append.1 he).elim (hin e) (hin' e)

/-- The register or frame of a transfer is the command's (20_memory.md R66). -/
def TransferWithinReach (i : Instr) (x : Transfer) : Prop :=
  match x with
  | .regRead a => a ∈ readsOf i
  | .regWrite a _ => a ∈ writesOf i
  | x => frameBytes (transferInstr x) ∈ framesOf i

/-- The register, frame or pin of a line is the command's (20_memory.md R66). -/
def LineWithinReach (i : Instr) (m : Micro) : Prop :=
  match m with
  | .xfer x => TransferWithinReach i x
  | .pinLow => .pinSet false ∈ pinsOf i
  | .cfgRst => .pinCfgRst .out ∈ pinsOf i
  | .cfgDone => .pinCfgDone .inPullup ∈ pinsOf i
  | _ => True

section Reach
variable {i : Instr} (s : State)

theorem State.memRead_addsWithinReach {a : Byte} (h : a ∈ readsOf i) : AddsWithinReach i s (s.memRead a) := by
  rcases s.memRead_cases a with ⟨_, _, hr⟩ | ⟨_, hr⟩ <;> rw [hr] <;>
    exact ⟨_, rfl, by simpa [WithinReach] using h⟩

theorem State.memWrite_addsWithinReach {a : Byte} (d : Byte) (h : a ∈ writesOf i) :
    AddsWithinReach i s (s.memWrite a d) := by
  rcases s.memWrite_cases a d with ⟨_, hw⟩ | ⟨_, hw⟩ <;> rw [hw] <;>
    exact ⟨_, rfl, by simpa [WithinReach] using h⟩

theorem State.spiXfer_addsWithinReach {tx : List Byte} (h : tx ∈ framesOf i) : AddsWithinReach i s (s.spiXfer tx) := by
  have hinit : ∀ e ∈ spiInitEvents s, WithinReach i e := by
    unfold spiInitEvents
    split <;> simp [WithinReach]
  have hwith : ∀ evs, (∀ e ∈ evs, WithinReach i e) → ∀ e ∈ spiInitEvents s ++ evs, WithinReach i e :=
    fun evs hevs e he => (List.mem_append.1 he).elim (hinit e) (hevs e)
  cases hk : (s.answer 0).ok with
  | false => rw [s.spiXfer_fail tx hk]; exact ⟨_, rfl, hwith _ (by simpa [WithinReach] using h)⟩
  | true => rw [s.spiXfer_ok tx hk]; exact ⟨_, rfl, hwith _ (by simpa [WithinReach] using h)⟩

theorem State.complete_addsWithinReach (r : Result) : AddsWithinReach i s (s.complete r) :=
  ⟨_, rfl, by simp [WithinReach]⟩

theorem State.advance_addsWithinReach (n : Nat) : AddsWithinReach i s (s.advance n) := ⟨[], by simp, by simp⟩

/-- A line adds events of its own register, frame or pin. -/
theorem State.micro_addsWithinReach {m : Micro} (h : LineWithinReach i m) : AddsWithinReach i s (s.micro m) := by
  cases m with
  | xfer x =>
    cases x with
    | regWrite a d => exact s.memWrite_addsWithinReach d h
    | regRead a => exact s.memRead_addsWithinReach h
    | _ => exact s.spiXfer_addsWithinReach h
  | complete r => exact s.complete_addsWithinReach r
  | checkInterlock =>
    simp only [State.micro]
    split
    · exact s.complete_addsWithinReach _
    · exact s.advance_addsWithinReach _
  | checkId | checkCapacity =>
    simp only [State.micro]
    split
    · exact s.advance_addsWithinReach _
    · exact s.complete_addsWithinReach _
  | storeByte | storeBusy | wait => exact ⟨[], by simp [State.micro], by simp⟩
  | cfgRst | cfgDone | pinLow => exact ⟨[_], rfl, by simpa [WithinReach, LineWithinReach] using h⟩
  | i2cInit | delay => exact ⟨[_], rfl, by simp [WithinReach]⟩

end Reach

/-- The lines of one rail are within the reach of a command that may write the rail's two registers. -/
theorem setRailLines_withinReach {i : Instr} {r : Rail} (ht : railTarget r ∈ writesOf i)
    (hc : railControl r ∈ writesOf i) (mv : Operand) (code : Option Byte) :
    ∀ m ∈ setRailLines r mv code, LineWithinReach i m := by
  unfold setRailLines
  split
  · simp [LineWithinReach, TransferWithinReach, hc]
  · cases code <;> simp [planEnable, LineWithinReach, TransferWithinReach, ht, hc]

/-- Every line of a command is within its reach (20_memory.md R66). -/
theorem lineWithinReach_of_mem {i : Instr} {plan : List Micro} (hp : planOf i = some plan) :
    ∀ m ∈ plan, LineWithinReach i m := by
  cases i with
  | setVaux mv =>
    cases hp
    rw [planSetVaux_eq]
    split
    · simp [LineWithinReach]
    · intro m hm
      rcases List.mem_append.1 hm with hlock | hset
      · split at hlock
        next hv =>
          have hread : regVioCtl ∈ readsOf (.setVaux mv) := by simpa [readsOf, needsInterlock, regVioCtl] using hv
          rcases List.mem_cons.1 hlock with rfl | hcheck
          · exact hread
          · obtain rfl := List.mem_singleton.1 hcheck
            trivial
        next => cases hlock
      · exact setRailLines_withinReach (by simp [writesOf, railTarget, regVauxTgt])
          (by simp [writesOf, railControl, regVauxCtl]) _ _ m hset
  | setVio mv =>
    cases hp
    rw [planSetVio_eq]
    split
    · simp [LineWithinReach]
    · exact setRailLines_withinReach (by simp [writesOf, railTarget, regVioTgt])
        (by simp [writesOf, railControl, regVioCtl]) _ _
  | setVfpga ign en =>
    cases hp
    cases en <;> simp [planSetVfpga, LineWithinReach, TransferWithinReach, writesOf, regVfpgaTgt, regVfpgaCtl, regVioCtl]
  | i2cRd a ign => cases hp; simp [planI2cRd, LineWithinReach, TransferWithinReach, readsOf]
  | i2cWr a d => cases hp; simp [planI2cWr, LineWithinReach, TransferWithinReach, writesOf]
  | fpgaHold ign => cases hp; simp [planFpgaHold, LineWithinReach, pinsOf]
  | init ign => cases hp; simp [planInit, LineWithinReach, TransferWithinReach, pinsOf, readsOf, regCid]
  | flWake | flReset | flIdent | flErase | flBusy =>
    cases hp
    simp [planFlWake, planFlReset, planFlIdent, planFlErase, planFlBusy, LineWithinReach, TransferWithinReach, framesOf,
      frameBytes, transferInstr, encode, dcBytes]
  | _ => cases hp <;> simp [planReserved, LineWithinReach]

/-- Settles O27: a command's lines are within its reach, and each adds events of its own space. -/
theorem commandReach : Obligations.CommandReach := by
  intro i s t hi he
  obtain ⟨plan, hp⟩ := planOf_of_isCommand hi
  have haccept : AddsWithinReach i s (s.accept (commandWord i) plan) := ⟨_, rfl, by simp [WithinReach]⟩
  exact exec_command_induction hp he (AddsWithinReach.refl i s) haccept fun u m hm hu =>
    hu.trans (u.micro_addsWithinReach (lineWithinReach_of_mem hp m hm))

/-! ### The register file (O59) -/

/-- A premise on a whole trace holds of its end, from the content and the flag the events before leave. -/
theorem pmicRegFile_of_append {m : Byte → Byte} {en : Bool} {xs ys : List Event} (h : PmicRegFile m en (xs ++ ys)) :
    ∃ m' en', PmicRegFile m' en' ys := by
  induction xs generalizing m en with
  | nil => exact ⟨m, en, h⟩
  | cons e rest ih =>
    cases e with
    | i2cRd | i2cFail => exact ih h.2
    | _ => exact ih h

/-- Lines that start with a transfer and complete go on after it. -/
theorem State.runLines_transfer {s : State} {x : Transfer} {rest : List Micro} (hb : s.busy = true)
    (h : (s.runLines (.xfer x :: rest)).seq = .idle) :
    (s.transfer x).busy = true ∧ s.runLines (.xfer x :: rest) = (s.transfer x).runLines rest := by
  rcases s.transfer_fatal_or_busy x hb with hf | hb'
  · have hended : s.runLines (.xfer x :: rest) = s.transfer x :=
      State.andThen_ended (s.transfer x) _ (by simp [State.busy, hf])
    rw [hended, hf] at h
    cases h
  · exact ⟨hb', State.andThen_busy _ _ hb'⟩

/-- The last two lines of `I2C_RD` and of `FL_BUSY`: `RDATA` is stored and the command completes with it. -/
theorem State.runLines_store_complete {s : State} {m : Micro} {v : Byte} (r : Result) (hb : s.busy = true)
    (hm : s.micro m = { s with rdata := v, seq := s.seq.pop 0 }) :
    s.runLines [m, .complete r] = State.complete r { s with rdata := v, seq := s.seq.pop 0 } := by
  obtain ⟨k, todo, hs⟩ := s.busy_iff.1 hb
  rw [State.runLines_cons, hm, State.andThen_busy _ _ ((State.busy_iff _).2 ⟨k + 0, todo.tail, by rw [hs, Seq.pop_run]⟩),
    State.runLines_complete]

/-- What a completed `I2C_WR` adds to the trace (41_bus_transport.md R154). -/
theorem trace_of_i2cWr_completed {s t : State} {a d : Byte} (hs : s.seq = .idle)
    (he : exec (.i2cWr a d) s = .next t) (ht : t.seq = .idle) :
    t.trace = s.trace ++
      [.accept (commandWord (.i2cWr a d)), .i2cWr a d, .complete (commandWord (.i2cWr a d)) .success s.rdata] := by
  rw [exec_command (plan := planI2cWr a d) rfl, s.command_idle _ _ hs] at he
  cases he
  obtain ⟨hb, hrun⟩ := State.runLines_transfer (s.accept_busy _ _) ht
  refine (congrArg State.trace hrun).trans ?_
  rw [State.transfer] at hb ⊢
  rcases State.memWrite_cases _ a d with ⟨_, hw⟩ | ⟨_, hw⟩ <;> rw [hw] at hb ⊢
  · simp
  · cases hb

/-- What a completed `I2C_RD` adds to the trace: `RDATA` holds the byte read (41_bus_transport.md R153). -/
theorem trace_of_i2cRd_completed {s t : State} {a ign : Byte} (hs : s.seq = .idle)
    (he : exec (.i2cRd a ign) s = .next t) (ht : t.seq = .idle) :
    t.trace = s.trace ++
      [.accept (commandWord (.i2cRd a ign)), .i2cRd a t.rdata, .complete (commandWord (.i2cRd a ign)) .success t.rdata] := by
  rw [exec_command (plan := planI2cRd a) rfl, s.command_idle _ _ hs] at he
  cases he
  obtain ⟨hb, hrun⟩ := State.runLines_transfer (s.accept_busy _ _) ht
  have hstore := State.runLines_store_complete .success hb (m := .storeByte) rfl
  have hend : (s.accept (commandWord (.i2cRd a ign)) (planI2cRd a)).runLines (planI2cRd a) = _ := hrun.trans hstore
  rw [hend]
  rw [State.transfer] at hb ⊢
  rcases State.memRead_cases _ a with ⟨_, _, hr⟩ | ⟨_, hr⟩ <;> rw [hr] at hb ⊢
  · simp
  · cases hb

/-- Settles O59: the two commands' events end the trace, and in the premise the byte read there is the one just
written. -/
theorem regFileReadBack : Obligations.RegFileReadBack := by
  intro m0 a d ign s t u hs het ht heu hu hprem
  rw [trace_of_i2cRd_completed ht heu hu, trace_of_i2cWr_completed hs het ht, List.append_assoc] at hprem
  obtain ⟨m, en, hend⟩ := pmicRegFile_of_append hprem
  have hread : (if a = a then d else m a) = u.rdata := hend.1
  rw [← hread, if_pos rfl]

/-! ### The scripted flash (O60) -/

theorem frameCount_append (xs ys : List Event) : frameCount (xs ++ ys) = frameCount xs + frameCount ys := by
  induction xs with
  | nil => exact (Nat.zero_add _).symm
  | cons e rest ih =>
    cases e with
    | spiFrame tx rx => simp only [List.cons_append, frameCount, ih]; omega
    | _ => exact ih

/-- The events of a command before its first transfer hold no frame. -/
theorem frameCount_accept (s : State) (w : Word) : frameCount (.accept w :: spiInitEvents s) = 0 := by
  unfold spiInitEvents
  split <;> rfl

/-- The script's elements for the frames of the end of a trace are those after the frames before. -/
theorem flashScript_of_append {sc : List (List Byte)} {xs ys : List Event} (h : FlashScript sc (xs ++ ys)) :
    FlashScript (sc.drop (frameCount xs)) ys := by
  induction xs generalizing sc with
  | nil => exact h
  | cons e rest ih =>
    cases e with
    | spiFrame tx rx =>
      have hrest : FlashScript (sc.tail.drop (frameCount rest)) ys := ih h.2
      rwa [List.drop_tail] at hrest
    | spiFail tx => exact h.elim
    | _ => exact ih h

/-- `zext_8(b[0])` is the byte with all but its lowest bit masked off (43_flash.md R229). -/
theorem bitZero_eq_and_one (b : Byte) : bitZero b = b &&& 1 := by
  have hmask : b &&& 1 = BitVec.setWidth 8 (BitVec.ofBool (b.getLsbD 0)) := BitVec.and_one_eq_setWidth_ofBool_getLsbD
  rw [hmask, bitZero]
  cases b.getLsbD 0 <;> rfl

/-- `FL_BUSY` completes with bit 0 of the second byte of its frame, or its frame fails (43_flash.md R229). -/
theorem exec_flBusy_cases {s t : State} {ign : Operand} (hs : s.seq = .idle) (he : exec (.flBusy ign) s = .next t) :
    (∃ x y, t.seq = .idle ∧ t.status = .success ∧ t.rdata = bitZero y ∧
      t.trace = (s.trace ++ (.accept (commandWord (.flBusy ign)) :: spiInitEvents s)) ++
        [.spiFrame [0x05, 0] [x, y], .complete (commandWord (.flBusy ign)) .success t.rdata]) ∨
    t.trace = (s.trace ++ (.accept (commandWord (.flBusy ign)) :: spiInitEvents s)) ++
      [.spiFail [0x05, 0], .fatal .spi] := by
  rw [exec_command (plan := planFlBusy) rfl, s.command_idle _ _ hs] at he
  cases he
  generalize hu : s.accept (commandWord (.flBusy ign)) planFlBusy = u
  have hframe : u.micro (.xfer (.status 0)) = u.spiXfer [0x05, 0] := rfl
  rw [planFlBusy, State.runLines_cons, hframe]
  cases hk : (u.answer 0).ok with
  | false =>
    right
    rw [u.spiXfer_fail _ hk, State.andThen_ended _ _ rfl, ← hu]
    cases hi : s.spiInit <;> simp [spiInitEvents, hi]
  | true =>
    left
    have hb : (u.spiXfer [0x05, 0]).busy = true := by
      rw [u.spiXfer_ok _ hk, ← hu]
      cases hi : s.spiInit <;> simp [State.busy, hi]
    rw [State.andThen_busy _ _ hb, State.runLines_store_complete .success hb rfl, u.spiXfer_ok _ hk]
    refine ⟨(u.answer 0).bytes.b0, (u.answer 0).bytes.b1, rfl, rfl, rfl, ?_⟩
    rw [← hu]
    cases hi : s.spiInit <;> simp [spiInitEvents, hi, Buf.take]

/-- Settles O60: the premise rules a failed frame out and gives the frame's bytes, which are the script's element after
those of the frames before. -/
theorem scriptedBusyPoll : Obligations.ScriptedBusyPoll := by
  intro sc x y ign s t hs he hprem hsc
  have hcount : frameCount (s.trace ++ (.accept (commandWord (.flBusy ign)) :: spiInitEvents s)) = frameCount s.trace := by
    rw [frameCount_append, frameCount_accept, Nat.add_zero]
  rcases exec_flBusy_cases hs he with ⟨x', y', hidle, hstatus, hdata, htr⟩ | htr
  · rw [htr] at hprem
    have hend := flashScript_of_append hprem
    rw [hcount] at hend
    have hframe : (sc.drop (frameCount s.trace)).head? = some [x', y'] := hend.1
    rw [List.head?_drop, hsc] at hframe
    cases hframe
    exact ⟨hidle, hstatus, hdata.trans (bitZero_eq_and_one y)⟩
  · rw [htr] at hprem
    exact (flashScript_of_append hprem).elim

end Sys2Proof.Machine

/-! ## Proofs of the family 30_encoding.md: the encoder and the decoder are inverse (O1, O2), the flash opcodes (O5), words
written out (O3), the reserved opcodes (O46)

An instruction is a command, given as its command word, or the bus row of a transfer; both directions of the inverse
go encoding by encoding. The closed set of flash opcodes then follows from what the decoder refuses. -/

namespace Sys2Proof.Machine

open Sys2Proof.Safety

/-! ### The parts of a word put together again -/

/-- A vector is its upper part followed by its lower part. -/
theorem append_extractLsb'_self {n m : Nat} (v : BitVec (n + m)) : v.extractLsb' m n ++ v.extractLsb' 0 m = v := by
  ext i hi
  simp

section Parts
variable (w : Word) (o : Operand) (dc : BitVec 24) (x y z : Byte)

/-- The two fields are the whole word (30_encoding.md R100). -/
@[simp] theorem commandOf_opField_opdField : commandOf (opField w) (opdField w) = w :=
  append_extractLsb'_self (n := 4) (m := 16) w

/-- Forms A and AD divide the operand into its two bytes (30_encoding.md R103). -/
@[simp] theorem hiByte_append_loByte : hiByte o ++ loByte o = o :=
  append_extractLsb'_self (n := 8) (m := 8) o

/-- Form E divides the operand into bit 0 and the ignored bits (30_encoding.md R103). -/
@[simp] theorem ignored_append_enable : o.extractLsb' 1 15 ++ BitVec.ofBool (o.getLsbD 0) = o := by
  have hbit : BitVec.ofBool (o.getLsbD 0) = o.extractLsb' 0 1 := by
    ext i hi
    obtain rfl : i = 0 := by omega
    simp
  rw [hbit]
  exact append_extractLsb'_self (n := 15) (m := 1) o

/-- The three don't-care bytes are all the bits they carry (30_encoding.md R109). -/
@[simp] theorem append_of_dcBytes : dc.extractLsb' 16 8 ++ dc.extractLsb' 8 8 ++ dc.extractLsb' 0 8 = dc := by
  have hupper : dc.extractLsb' 16 8 ++ dc.extractLsb' 8 8 = dc.extractLsb' 8 16 :=
    BitVec.extractLsb'_append_extractLsb'_eq_extractLsb' (by rfl)
  rw [hupper]
  exact append_extractLsb'_self (n := 16) (m := 8) dc

/-- The don't-care bytes are sent in the order they were received in. -/
@[simp] theorem dcBytes_append : dcBytes (x ++ y ++ z) = [x, y, z] := by
  have hx : (x ++ y ++ z).extractLsb' 16 8 = x :=
    (BitVec.extractLsb'_append_eq_of_le (by decide)).trans BitVec.extractLsb'_append_eq_left
  have hy : (x ++ y ++ z).extractLsb' 8 8 = y :=
    (BitVec.extractLsb'_append_eq_of_le (by decide)).trans BitVec.extractLsb'_append_eq_right
  have hz : (x ++ y ++ z).extractLsb' 0 8 = z := BitVec.extractLsb'_append_eq_right
  exact congrArg₂ List.cons hx (congrArg₂ List.cons hy (congrArg₂ List.cons hz rfl))

end Parts

/-! ### Decoding what is encoded (O1) -/

/-- A bus transaction is the bus row of its transfer. -/
theorem transferInstr_of_instrTransfer {i : Instr} {x : Transfer} (h : instrTransfer i = some x) : transferInstr x = i := by
  cases i <;> cases h <;> rfl

/-- A command stands on the port as its word (30_encoding.md R100). -/
theorem encode_of_isCommand {i : Instr} (h : IsCommand i) : encode i = .command (commandWord i) := by
  obtain ⟨plan, hp⟩ := planOf_of_isCommand h
  cases i <;> cases hp <;> rfl

/-- A transfer is read off the bus as it was put there, with its register, its data and its don't-care bytes
(30_encoding.md R104, R105, R107). -/
theorem decode_encode_transferInstr (x : Transfer) : decode (encode (transferInstr x)) = .ok (transferInstr x) := by
  cases x with
  | wake dc => exact congrArg (Except.ok ∘ Instr.spiWake) (append_of_dcBytes dc)
  | identify dc => exact congrArg (Except.ok ∘ Instr.spiIdentify) (append_of_dcBytes dc)
  | regWrite | regRead | resetEnable | resetConfirm | eraseEnable | chipErase | status => rfl

/-- Decoding gives back what was encoded, whatever the ignored bits and the don't-care bytes. -/
theorem decode_encode (i : Instr) : decode (encode i) = .ok i := by
  cases h : instrTransfer i with
  | none => rw [encode_of_isCommand h, decode, decodeCommand_commandWord h]
  | some x => rw [← transferInstr_of_instrTransfer h, decode_encode_transferInstr]

/-- Settles O1. -/
theorem decodeEncodeInverse : Obligations.DecodeEncodeInverse := fun i _ => decode_encode i

/-! ### Encoding what is decoded (O2) -/

/-- A word is its opcode, given as a number, and its operand. -/
theorem commandOf_opdField {w : Word} {op : BitVec 4} (h : (opField w).toNat = op.toNat) : commandOf op (opdField w) = w := by
  rw [← BitVec.eq_of_toNat_eq h, commandOf_opField_opdField]

/-- The branches of `decodeCommand` are the sixteen opcodes (30_encoding.md R102, R119). -/
theorem encode_decodeCommand (w : Word) : encode (decodeCommand w) = .command w := by
  unfold decodeCommand
  split <;> simp only [encode, hiByte_append_loByte, ignored_append_enable]
  case h_16 =>
    have hop : (opField w).toNat = 15 := by
      have hlt := (opField w).isLt
      simp only [imp_false] at *
      omega
    exact congrArg Wire.command (commandOf_opdField (op := 0xF) hop)
  all_goals exact congrArg Wire.command (commandOf_opdField ‹_›)

theorem encode_of_decodeI2c {dev : DeviceAddr} {sent : List Byte} {n : Nat} {i : Instr}
    (h : decodeI2c dev sent n = .ok i) : encode i = .i2c dev sent n := by
  unfold decodeI2c at h
  split at h
  next hdev =>
    subst hdev
    split at h <;> cases h <;> rfl
  next => cases h

theorem encode_of_decodeSpi {tx : List Byte} {i : Instr} (h : decodeSpi tx = .ok i) : encode i = .spi tx := by
  unfold decodeSpi at h
  split at h
  next op => split_ifs at h <;> (cases h; subst op; rfl)
  next op x =>
    split_ifs at h
    cases h
    subst op
    rfl
  next op x y z => split_ifs at h <;> (cases h; subst op; rw [encode, dcBytes_append])
  next => cases h

/-- What the decoder accepts is what the encoder writes. -/
theorem encode_of_decode {x : Wire} {i : Instr} (h : decode x = .ok i) : encode i = x := by
  cases x with
  | command w => cases h; exact encode_decodeCommand w
  | i2c dev sent n => exact encode_of_decodeI2c h
  | spi tx => exact encode_of_decodeSpi h

/-- Settles O2. -/
theorem encodeDecodeInverse : Obligations.EncodeDecodeInverse :=
  ⟨fun _ _ => encode_of_decode, fun w => ⟨rfl, isCommand_decodeCommand w⟩⟩

/-! ### The flash opcodes (O5) -/

/-- The seven opcodes of 30_encoding.md R108. -/
def flashOpcodes : List Byte := [0xAB, 0x66, 0x99, 0x9F, 0x06, 0x60, 0x05]

/-- Whatever its length, a frame with another opcode is none of the block's. -/
theorem decodeSpi_of_notMem {op : Byte} (rest : List Byte) (h : op ∉ flashOpcodes) :
    decodeSpi (op :: rest) = .error .notABlockFrame := by
  simp only [flashOpcodes, List.mem_cons, List.not_mem_nil, or_false, not_or] at h
  obtain ⟨hwake, hen, hconf, hid, heen, herase, hstatus⟩ := h
  match rest with
  | [] => simp only [decodeSpi, hen, hconf, heen, herase, if_false]
  | [_] => simp only [decodeSpi, hstatus, if_false]
  | [_, _] => rfl
  | [_, _, _] => simp only [decodeSpi, hwake, hid, if_false]
  | _ :: _ :: _ :: _ :: _ => rfl

/-- Each of the seven opcodes starts a frame (30_encoding.md R107). -/
theorem exists_frame_of_mem {op : Byte} (h : op ∈ flashOpcodes) : ∃ i rest, encode i = .spi (op :: rest) := by
  simp only [flashOpcodes, List.mem_cons, List.not_mem_nil, or_false] at h
  rcases h with rfl | rfl | rfl | rfl | rfl | rfl | rfl
  · exact ⟨.spiWake 0, _, rfl⟩
  · exact ⟨.spiResetEnable, _, rfl⟩
  · exact ⟨.spiResetConfirm, _, rfl⟩
  · exact ⟨.spiIdentify 0, _, rfl⟩
  · exact ⟨.spiEraseEnable, _, rfl⟩
  · exact ⟨.spiChipErase, _, rfl⟩
  · exact ⟨.spiStatus 0, _, rfl⟩

/-- Settles O5: an instruction's frame decodes, so its opcode is one the decoder does not refuse. -/
theorem flashOpcodesClosed : Obligations.FlashOpcodesClosed := by
  refine ⟨fun op => ⟨?_, exists_frame_of_mem⟩, fun op rest => decodeSpi_of_notMem rest⟩
  rintro ⟨i, rest, henc⟩
  by_contra hop
  have hdec := decode_encode i
  rw [henc] at hdec
  cases (decodeSpi_of_notMem rest hop).symm.trans hdec

/-! ### Words written out (O3) -/

/-- Settles O3: the thirteen words are evaluated. -/
theorem writtenOutWordsDecode : Obligations.WrittenOutWordsDecode := by
  unfold Obligations.WrittenOutWordsDecode
  decide

/-! ### The reserved opcodes (O46) -/

theorem planOf_of_isReserved {i : Instr} (h : IsReserved i) : planOf i = some planReserved := by
  rcases h with ⟨g, rfl⟩ | ⟨g, rfl⟩ | ⟨g, rfl⟩ | ⟨g, rfl⟩ <;> rfl

/-- Settles O46: the one line of a reserved opcode completes it at once. -/
theorem reservedResult : Obligations.ReservedResult := by
  intro i s hi hs
  rw [exec_command (planOf_of_isReserved hi), s.command_idle _ _ hs, planReserved, State.runLines_complete]
  simp [State.complete, State.accept]

end Sys2Proof.Machine

/-! ## Proofs of the family 40_voltage_encoder.md: the integer encoders against those over the rationals (O6),
monotonicity (O7), the intervals of the codes (O8)

Over the rationals a code is the one whose cell, half a step to each side of its nominal voltage, holds the voltage; in
millivolts the cells are the intervals of R133 and R134. The two encoders agree because the cells do. -/

namespace Sys2Proof.Machine

/-! ### Rounding -/

theorem roundHalfUp_eq_floor (q : Rat) : roundHalfUp q = ⌊q + 1 / 2⌋ := rfl

/-- Rounding half up gives the integer at most half above and less than half below (00_scope.md R13). -/
theorem roundHalfUp_eq_iff (q : Rat) (k : Int) : roundHalfUp q = k ↔ k - 1 / 2 ≤ q ∧ q < k + 1 / 2 := by
  rw [roundHalfUp_eq_floor, Int.floor_eq_iff, sub_le_iff_le_add]
  exact and_congr_right fun _ => by constructor <;> intro hlt <;> linarith

theorem roundHalfUp_mono {p q : Rat} (h : p ≤ q) : roundHalfUp p ≤ roundHalfUp q :=
  Int.floor_le_floor (add_le_add_left h _)

/-! ### The encoder over the rationals -/

section EncVolts
variable {lo hi step v w : Rat} {k : Int}

theorem encVolts_of_mem (hlo : lo ≤ v) (hhi : v ≤ hi) :
    encVolts lo hi step v = some (roundHalfUp ((v - vOffset) / step)) := if_pos ⟨hlo, hhi⟩

theorem encVolts_eq_none_iff : encVolts lo hi step v = none ↔ ¬ (lo ≤ v ∧ v ≤ hi) := by
  simp [encVolts]

/-- The code `k` stands for the voltages of the range within half a step of its nominal voltage, the upper end left
out. -/
theorem encVolts_eq_some_iff (hstep : 0 < step) :
    encVolts lo hi step v = some k ↔
      (lo ≤ v ∧ v ≤ hi) ∧ vOffset + step * k - step / 2 ≤ v ∧ v < vOffset + step * k + step / 2 := by
  have hcell : roundHalfUp ((v - vOffset) / step) = k ↔
      vOffset + step * k - step / 2 ≤ v ∧ v < vOffset + step * k + step / 2 := by
    rw [roundHalfUp_eq_iff, le_div_iff₀ hstep, div_lt_iff₀ hstep]
    constructor <;> rintro ⟨hge, hlt⟩ <;> constructor <;> linarith
  rw [encVolts, ← hcell]
  simp

theorem encVolts_mono (hstep : 0 < step) (hlo : lo ≤ v) (hvw : v ≤ w) (hhi : w ≤ hi) :
    ∃ a b, encVolts lo hi step v = some a ∧ encVolts lo hi step w = some b ∧ a ≤ b :=
  ⟨_, _, encVolts_of_mem hlo (hvw.trans hhi), encVolts_of_mem (hlo.trans hvw) hhi,
    roundHalfUp_mono (div_le_div_of_nonneg_right (sub_le_sub_right hvw _) hstep.le)⟩

/-- The offset is in the middle of the cell of code 0. -/
theorem encVolts_vOffset (hstep : 0 < step) (hlo : lo ≤ vOffset) (hhi : vOffset ≤ hi) :
    encVolts lo hi step vOffset = some 0 := by
  rw [encVolts_eq_some_iff hstep, Int.cast_zero, mul_zero]
  exact ⟨⟨hlo, hhi⟩, by linarith, by linarith⟩

/-- The nominal voltage of the code is off by at most half a step. -/
theorem abs_nominal_sub_le (hstep : 0 < step) (h : encVolts lo hi step v = some k) :
    |vOffset + step * k - v| ≤ step / 2 := by
  obtain ⟨-, hge, hlt⟩ := (encVolts_eq_some_iff hstep).1 h
  exact abs_le.2 ⟨by linarith, by linarith⟩

end EncVolts

theorem vauxStep_pos : 0 < vauxStep := by norm_num [vauxStep]

theorem vioStep_pos : 0 < vioStep := by norm_num [vioStep]

/-- Settles O7: rounding keeps the order, and the offset 0.8 V is in both ranges. -/
theorem encoderMonotone : Obligations.EncoderMonotone :=
  ⟨fun _ _ => encVolts_mono vauxStep_pos, fun _ _ => encVolts_mono vioStep_pos,
    encVolts_vOffset vauxStep_pos le_rfl (by norm_num [vOffset, vauxMax]),
    encVolts_vOffset vioStep_pos le_rfl (by norm_num [vOffset, vioMax])⟩

/-! ### The encoders on millivolts -/

section Millivolts
variable {mv : Operand} {k : Byte}

/-- 40_voltage_encoder.md R133: the interval of a code, where the byte does not wrap around. -/
theorem encVaux_eq_some_iff :
    encVaux mv = some k ↔
      800 ≤ mv.toNat ∧ mv.toNat ≤ 5500 ∧ 775 + 50 * k.toNat ≤ mv.toNat ∧ mv.toNat ≤ 824 + 50 * k.toNat := by
  rw [encVaux, Option.ite_none_right_eq_some, Option.some_inj, ← BitVec.toNat_inj, BitVec.toNat_ofNat]
  omega

/-- 40_voltage_encoder.md R134: the interval of a code, where the byte does not wrap around. -/
theorem encVio_eq_some_iff :
    encVio mv = some k ↔
      800 ≤ mv.toNat ∧ mv.toNat ≤ 3460 ∧ 788 + 25 * k.toNat ≤ mv.toNat ∧ mv.toNat ≤ 812 + 25 * k.toNat := by
  rw [encVio, Option.ite_none_right_eq_some, Option.some_inj, ← BitVec.toNat_inj, BitVec.toNat_ofNat]
  omega

theorem encVaux_eq_none_iff : encVaux mv = none ↔ ¬ (800 ≤ mv.toNat ∧ mv.toNat ≤ 5500) := by
  simp [encVaux]

theorem encVio_eq_none_iff : encVio mv = none ↔ ¬ (800 ≤ mv.toNat ∧ mv.toNat ≤ 3460) := by
  simp [encVio]

theorem mem_vauxRange_iff : vauxMin ≤ volts mv ∧ volts mv ≤ vauxMax ↔ 800 ≤ mv.toNat ∧ mv.toNat ≤ 5500 := by
  have hmin : vauxMin = ((800 : Nat) : Rat) / 1000 := by norm_num [vauxMin]
  have hmax : vauxMax = ((5500 : Nat) : Rat) / 1000 := by norm_num [vauxMax]
  rw [hmin, hmax, le_volts_iff, volts_le_iff]

theorem mem_vioRange_iff : vioMin ≤ volts mv ∧ volts mv ≤ vioMax ↔ 800 ≤ mv.toNat ∧ mv.toNat ≤ 3460 := by
  have hmin : vioMin = ((800 : Nat) : Rat) / 1000 := by norm_num [vioMin]
  have hmax : vioMax = ((3460 : Nat) : Rat) / 1000 := by norm_num [vioMax]
  rw [hmin, hmax, le_volts_iff, volts_le_iff]

/-- The interval of a Vaux code lies in its cell: a tie, `775 + 50 * k`, belongs to the code above it. -/
theorem vauxCell_of_interval (hge : 775 + 50 * k.toNat ≤ mv.toNat) (hle : mv.toNat ≤ 824 + 50 * k.toNat) :
    vOffset + vauxStep * k.toNat - vauxStep / 2 ≤ volts mv ∧
      volts mv < vOffset + vauxStep * k.toNat + vauxStep / 2 := by
  have hge' : (775 + 50 * k.toNat : Rat) ≤ mv.toNat := by exact_mod_cast hge
  have hle' : (mv.toNat : Rat) ≤ 824 + 50 * k.toNat := by exact_mod_cast hle
  unfold volts vOffset vauxStep
  constructor <;> linarith

/-- The interval of a Vio code lies in its cell, whose ends are no millivolt values. -/
theorem vioCell_of_interval (hge : 788 + 25 * k.toNat ≤ mv.toNat) (hle : mv.toNat ≤ 812 + 25 * k.toNat) :
    vOffset + vioStep * k.toNat - vioStep / 2 ≤ volts mv ∧
      volts mv < vOffset + vioStep * k.toNat + vioStep / 2 := by
  have hge' : (788 + 25 * k.toNat : Rat) ≤ mv.toNat := by exact_mod_cast hge
  have hle' : (mv.toNat : Rat) ≤ 812 + 25 * k.toNat := by exact_mod_cast hle
  unfold volts vOffset vioStep
  constructor <;> linarith

end Millivolts

/-! ### The two agree (O6) -/

theorem encVauxVolts_volts (mv : Operand) :
    encVauxVolts (volts mv) = (encVaux mv).map (fun b => (b.toNat : Int)) := by
  cases h : encVaux mv with
  | none => exact encVolts_eq_none_iff.2 (mem_vauxRange_iff.not.2 (encVaux_eq_none_iff.1 h))
  | some k =>
    obtain ⟨hmin, hmax, hge, hle⟩ := encVaux_eq_some_iff.1 h
    exact (encVolts_eq_some_iff vauxStep_pos).2 ⟨mem_vauxRange_iff.2 ⟨hmin, hmax⟩, vauxCell_of_interval hge hle⟩

theorem encVioVolts_volts (mv : Operand) :
    encVioVolts (volts mv) = (encVio mv).map (fun b => (b.toNat : Int)) := by
  cases h : encVio mv with
  | none => exact encVolts_eq_none_iff.2 (mem_vioRange_iff.not.2 (encVio_eq_none_iff.1 h))
  | some k =>
    obtain ⟨hmin, hmax, hge, hle⟩ := encVio_eq_some_iff.1 h
    exact (encVolts_eq_some_iff vioStep_pos).2 ⟨mem_vioRange_iff.2 ⟨hmin, hmax⟩, vioCell_of_interval hge hle⟩

/-- Settles O6: the millivolt interval of a code lies in the code's cell, and the ranges are the same. -/
theorem encoderAgreesWithVolts : Obligations.EncoderAgreesWithVolts :=
  fun mv => ⟨encVauxVolts_volts mv, encVioVolts_volts mv⟩

/-! ### The codes: their intervals, the largest, the deviation (O8) -/

section Codes
variable {mv : Operand} {k : Byte}

theorem encVaux_le (h : encVaux mv = some k) : k.toNat ≤ 94 := by
  obtain ⟨-, hmax, hge, -⟩ := encVaux_eq_some_iff.1 h
  omega

theorem encVio_le (h : encVio mv = some k) : k.toNat ≤ 106 := by
  obtain ⟨-, hmax, hge, -⟩ := encVio_eq_some_iff.1 h
  omega

/-- As it agrees with the encoder over the rationals, the Vaux code is within half a step, 25 mV. -/
theorem encVaux_deviation (h : encVaux mv = some k) : |vOffset + vauxStep * k.toNat - volts mv| ≤ 1 / 40 := by
  have hcode : encVauxVolts (volts mv) = some (k.toNat : Int) := by rw [encVauxVolts_volts, h, Option.map_some]
  calc |vOffset + vauxStep * k.toNat - volts mv| ≤ vauxStep / 2 := abs_nominal_sub_le vauxStep_pos hcode
    _ = 1 / 40 := by norm_num [vauxStep]

/-- As it agrees with the encoder over the rationals, the Vio code is within half a step, 12.5 mV. -/
theorem encVio_deviation (h : encVio mv = some k) : |vOffset + vioStep * k.toNat - volts mv| ≤ 1 / 80 := by
  have hcode : encVioVolts (volts mv) = some (k.toNat : Int) := by rw [encVioVolts_volts, h, Option.map_some]
  calc |vOffset + vioStep * k.toNat - volts mv| ≤ vioStep / 2 := abs_nominal_sub_le vioStep_pos hcode
    _ = 1 / 80 := by norm_num [vioStep]

end Codes

/-- Settles O8: the integer formulas give the intervals and the largest codes, the agreement with the encoders over the
rationals (O6) the deviations. -/
theorem encoderCodeIntervals : Obligations.EncoderCodeIntervals :=
  ⟨fun _ _ => encVaux_eq_some_iff, fun _ _ => encVio_eq_some_iff, fun _ _ => encVaux_le, fun _ _ => encVio_le,
    fun _ _ h => ⟨_, rfl, encVaux_deviation h⟩, fun _ _ h => ⟨_, rfl, encVio_deviation h⟩⟩

end Sys2Proof.Machine

/-! ## Proofs of the family 41_bus_transport.md: the transactions done (O47, O48) and failed (O49), the raw I2C commands
(O30, O31), a transfer that fails inside a command (O51) and before `INIT` (O52), the flash and `i2c_en` (O58), the device
address (O4)

A command that starts with a transfer goes on after it while it is busy; where the transfer fails, the state the failed
transfer leaves is the command's own. So each statement about a failing command is that of its transfer, after acceptance. -/

namespace Sys2Proof.Machine

open Sys2Proof.Safety

/-! ### The device address (O4) -/

/-- A transaction to another device is none of the block's (41_bus_transport.md R158). -/
theorem decode_of_otherDevice {dev : DeviceAddr} (sent : List Byte) (n : Nat) (h : dev ≠ i2cDev) :
    decode (.i2c dev sent n) = .error (.otherDevice dev) :=
  if_neg h

/-- Settles O4: what the block sends is decoded, and the decoder refuses another device. -/
theorem onlyPmicAddressed : Obligations.OnlyPmicAddressed := by
  refine ⟨fun i dev sent n henc => ?_, fun _ sent n => decode_of_otherDevice sent n⟩
  by_contra hdev
  have hdec := decode_encode i
  rw [henc, decode_of_otherDevice sent n hdev] at hdec
  cases hdec

/-! ### The bus rows, done and failed (O47, O48, O49) -/

/-- A frame's transfer is `SpiXfer` of the bytes it is encoded as (41_bus_transport.md R152, 30_encoding.md R107). -/
theorem State.transfer_of_encode_spi (s : State) {x : Transfer} {tx : List Byte} (h : encode (transferInstr x) = .spi tx) :
    s.transfer x = s.spiXfer tx := by
  cases x <;> cases h <;> rfl

/-- A frame's meaning is `SpiXfer` of the bytes it is encoded as. -/
theorem exec_of_encode_spi {i : Instr} {tx : List Byte} (h : encode i = .spi tx) (s : State) :
    exec i s = .next (s.spiXfer tx) := by
  cases hx : instrTransfer i with
  | none => cases (encode_of_isCommand hx).symm.trans h
  | some x =>
    rw [exec_transfer hx, State.transfer_of_encode_spi s (by rwa [transferInstr_of_instrTransfer hx])]

/-- A frame asks for one answer. -/
theorem State.spiXfer_answer (s : State) (tx : List Byte) (k : Nat) :
    (s.spiXfer tx).answer k = s.answer (k + 1) := by
  obtain ⟨_, _, _, -, h⟩ := s.spiXfer_cases tx
  simp only [h, State.answer, Nat.add_assoc, Nat.add_comm 1 k]

/-- A frame answered ok leaves the command in progress. -/
theorem State.spiXfer_busy {s : State} (tx : List Byte) (hb : s.busy = true) (hk : (s.answer 0).ok = true) :
    (s.spiXfer tx).busy = true := by
  obtain ⟨k, todo, hs⟩ := s.busy_iff.1 hb
  rw [s.spiXfer_ok tx hk]
  cases s.spiInit <;> simp [State.busy, hs]

/-- Settles O47: the two rows are `MemWrite` and `MemRead`. -/
theorem i2cTransactionResult : Obligations.I2cTransactionResult :=
  ⟨fun a d s he hk => congrArg Host.Outcome.next (s.memWrite_ok a d he hk),
   fun a s he hk => congrArg Host.Outcome.next (s.memRead_ok a he hk)⟩

/-- Settles O48: each of the seven rows is `SpiXfer` of its bytes. -/
theorem spiFrameResult : Obligations.SpiFrameResult := by
  intro dc x i tx s hmem hk
  have henc : encode i = .spi tx := by
    simp only [List.mem_cons, Prod.mk.injEq, List.not_mem_nil, or_false] at hmem
    rcases hmem with ⟨rfl, rfl⟩ | ⟨rfl, rfl⟩ | ⟨rfl, rfl⟩ | ⟨rfl, rfl⟩ | ⟨rfl, rfl⟩ | ⟨rfl, rfl⟩ | ⟨rfl, rfl⟩ <;> rfl
  rw [exec_of_encode_spi henc, s.spiXfer_ok tx hk, spiInitEvents]

/-- Settles O49: `MemWrite`, `MemRead` and `SpiXfer` as they fail. -/
theorem transferFailureAborts : Obligations.TransferFailureAborts := by
  refine ⟨fun a d s he hk => ?_, fun a s he hk => ?_, fun a d s he => ?_, fun a s he => ?_,
    fun i tx s henc hk => ⟨s.rx.load ((s.answer 0).bytes.take tx.length), ?_⟩⟩
  · exact congrArg Host.Outcome.next (s.memWrite_fail a d he hk)
  · exact congrArg Host.Outcome.next (s.memRead_fail a he hk)
  · exact congrArg Host.Outcome.next (s.memWrite_disabled a d he)
  · exact congrArg Host.Outcome.next (s.memRead_disabled a he)
  · rw [exec_of_encode_spi henc, s.spiXfer_fail tx hk, spiInitEvents]

/-! ### The lines of an accepted command -/

/-- A command given to an idle block is accepted and its lines are done. -/
theorem exec_of_idle {i : Instr} {plan : List Micro} {s : State} (hp : planOf i = some plan) (hs : s.seq = .idle) :
    exec i s = .next ((s.accept (commandWord i) plan).runLines plan) := by
  rw [exec_command hp, s.command_idle i plan hs]

/-- Acceptance asks for no answer. -/
@[simp] theorem State.accept_answer (s : State) (w : Word) (plan : List Micro) (k : Nat) :
    (s.accept w plan).answer k = s.answer k := rfl

section RunLines
variable {s t : State} {x : Transfer} {rest : List Micro}

/-- After a transfer that leaves the command in progress, the lines go on (10_state.md R28). -/
theorem State.runLines_of_transfer_busy (h : s.transfer x = t) (hb : t.busy = true) :
    s.runLines (.xfer x :: rest) = t.runLines rest := by
  subst h
  exact State.andThen_busy _ _ hb

/-- A transfer that fails is the last line (60_exceptions.md R283, R285). -/
theorem State.runLines_of_transfer_fatal (h : s.transfer x = t) (hf : t.seq = .fatal) :
    s.runLines (.xfer x :: rest) = t := by
  subst h
  have hb : (s.transfer x).busy = false := by simp [State.busy, hf]
  exact State.andThen_ended _ _ hb

end RunLines

/-! ### The raw I2C commands (O30, O31) -/

/-- Settles O30: the byte read is stored and the command completes with it. -/
theorem i2cRdResult : Obligations.I2cRdResult := by
  intro a ign s hs he hk
  have hread := (s.accept (commandWord (.i2cRd a ign)) (planI2cRd a)).memRead_ok a he hk
  have hrun : State.runLines (planI2cRd a) _ = _ := State.runLines_of_transfer_busy (x := .regRead a) hread rfl
  rw [exec_of_idle (plan := planI2cRd a) rfl hs, hrun, State.runLines_store_complete .success rfl rfl]
  simp [State.complete, commandWord, encode]

/-- Settles O31: the register is written and the command completes. -/
theorem i2cWrResult : Obligations.I2cWrResult := by
  intro a d s hs he hk
  have hwrite := (s.accept (commandWord (.i2cWr a d)) (planI2cWr a d)).memWrite_ok a d he hk
  have hrun : State.runLines (planI2cWr a d) _ = _ := State.runLines_of_transfer_busy (x := .regWrite a d) hwrite rfl
  rw [exec_of_idle (plan := planI2cWr a d) rfl hs, hrun, State.runLines_complete]
  simp [State.complete, commandWord, encode]

/-! ### A register access that fails (O51, O52) -/

/-- The event of a register access that fails; none for a frame. -/
def accessFailure : Transfer → Option Event
  | .regWrite a _ => some (.i2cFail .wr a)
  | .regRead a => some (.i2cFail .rd a)
  | _ => none

/-- A register access answered fail (41_bus_transport.md R150, R151). -/
theorem State.transfer_access_fail (s : State) {x : Transfer} {f : Event} (hx : accessFailure x = some f)
    (he : s.i2cEn = true) (hk : (s.answer 0).ok = false) :
    s.transfer x = { s with
      pmicW := pmicAfter s.pmicW f, asked := s.asked + 1, seq := .fatal, trace := s.trace ++ [f, .fatal .i2c] } := by
  cases x with
  | regWrite a d => cases hx; exact s.memWrite_fail a d he hk
  | regRead a => cases hx; exact s.memRead_fail a he hk
  | _ => cases hx

/-- A register access before `INIT` (41_bus_transport.md R155). -/
theorem State.transfer_access_disabled (s : State) {x : Transfer} {f : Event} (hx : accessFailure x = some f)
    (he : s.i2cEn = false) :
    s.transfer x = { s with pmicW := pmicAfter s.pmicW f, seq := .fatal, trace := s.trace ++ [f, .fatal .i2c] } := by
  cases x with
  | regWrite a d => cases hx; exact s.memWrite_disabled a d he
  | regRead a => cases hx; exact s.memRead_disabled a he
  | _ => cases hx

/-- A command whose first line is a register access answered fail ends there (60_exceptions.md R283). -/
theorem exec_of_firstAccess_fail {i : Instr} {x : Transfer} {rest : List Micro} {f : Event} {s : State}
    (hp : planOf i = some (.xfer x :: rest)) (hx : accessFailure x = some f) (hs : s.seq = .idle) (he : s.i2cEn = true)
    (hk : (s.answer 0).ok = false) : exec i s = .next (i2cCutShort s (commandWord i) [f]) := by
  have htr := (s.accept (commandWord i) (.xfer x :: rest)).transfer_access_fail hx he hk
  rw [exec_of_idle hp hs, State.runLines_of_transfer_fatal htr rfl]
  simp [i2cCutShort]

/-- Steps 3 and 4 of a rail with a code start with a write: of the control register to disable it, else of the target
register (42_pmic_rails.md R182, R185). -/
theorem setRailLines_first {r : Rail} {mv : Operand} {code : Option Byte} (hcode : mv.toNat ≠ 0 → code ≠ none) :
    ∃ d rest, setRailLines r mv code =
      .xfer (.regWrite (if mv.toNat = 0 then railControl r else railTarget r) d) :: rest := by
  unfold setRailLines
  split
  next => exact ⟨_, _, rfl⟩
  next h0 =>
    obtain ⟨k, rfl⟩ := Option.ne_none_iff_exists'.1 (hcode h0)
    exact ⟨_, _, rfl⟩

theorem encVaux_ne_none {mv : Operand} (hrej : ¬ vauxRejected mv = true) (h0 : mv.toNat ≠ 0) : encVaux mv ≠ none := by
  rw [Ne, encVaux_eq_none_iff, ← mem_vauxRange_iff]
  exact fun hout => hrej ((vauxRejected_iff_volts mv).2 ⟨h0, hout⟩)

theorem encVio_ne_none {mv : Operand} (hrej : ¬ vioRejected mv = true) (h0 : mv.toNat ≠ 0) : encVio mv ≠ none := by
  rw [Ne, encVio_eq_none_iff, ← mem_vioRange_iff]
  exact fun hout => hrej ((vioRejected_iff_volts mv).2 ⟨h0, hout⟩)

/-- The first access of 45_init.md R264 is the first line of `SET_VAUX`. -/
theorem setVaux_firstAccess {mv : Operand} {f : Event} (h : firstAccessFailure (.setVaux mv) = some f) :
    ∃ x rest, planSetVaux mv = .xfer x :: rest ∧ accessFailure x = some f := by
  rw [planSetVaux_eq]
  simp only [firstAccessFailure] at h
  split at h
  next => cases h
  next hrej =>
    rw [if_neg hrej]
    obtain ⟨d, rest, hlines⟩ := setRailLines_first (r := .vaux) (encVaux_ne_none hrej)
    rw [hlines]
    by_cases hlock : 3460 < mv.toNat
    · rw [if_neg (by omega), if_pos hlock] at h
      rw [if_pos (by simpa [needsInterlock] using hlock)]
      exact ⟨_, _, rfl, h⟩
    · rw [if_neg hlock] at h
      rw [if_neg (by simpa [needsInterlock] using hlock)]
      refine ⟨_, _, rfl, ?_⟩
      split_ifs at h ⊢ <;> exact h

/-- The first access of 45_init.md R264 is the first line of `SET_VIO`. -/
theorem setVio_firstAccess {mv : Operand} {f : Event} (h : firstAccessFailure (.setVio mv) = some f) :
    ∃ x rest, planSetVio mv = .xfer x :: rest ∧ accessFailure x = some f := by
  rw [planSetVio_eq]
  simp only [firstAccessFailure] at h
  split at h
  next => cases h
  next hrej =>
    rw [if_neg hrej]
    obtain ⟨d, rest, hlines⟩ := setRailLines_first (r := .vio) (encVio_ne_none hrej)
    refine ⟨_, _, hlines, ?_⟩
    split_ifs at h ⊢ <;> exact h

/-- The first access of 45_init.md R264 is the command's first line. -/
theorem firstTransfer_of_firstAccessFailure {i : Instr} {f : Event} (h : firstAccessFailure i = some f) :
    ∃ x rest, planOf i = some (.xfer x :: rest) ∧ accessFailure x = some f := by
  cases i with
  | i2cRd | i2cWr | setVfpga => exact ⟨_, _, rfl, h⟩
  | setVaux mv =>
    obtain ⟨x, rest, hplan, hx⟩ := setVaux_firstAccess h
    exact ⟨x, rest, congrArg some hplan, hx⟩
  | setVio mv =>
    obtain ⟨x, rest, hplan, hx⟩ := setVio_firstAccess h
    exact ⟨x, rest, congrArg some hplan, hx⟩
  | _ => cases h

/-- Settles O52: the first access is the first line, and it fails with nothing asked of the device. -/
theorem i2cBeforeInitAborts : Obligations.I2cBeforeInitAborts := by
  intro i f s hf hs he
  obtain ⟨x, rest, hp, hx⟩ := firstTransfer_of_firstAccessFailure hf
  have htr := (s.accept (commandWord i) (.xfer x :: rest)).transfer_access_disabled hx he
  rw [exec_of_idle hp hs, State.runLines_of_transfer_fatal htr rfl]
  simp

/-! ### A command cut short (O51) -/

/-- `INIT` after its first three lines: the pins are set up and the bus is enabled (45_init.md R260). -/
def State.broughtUp (s : State) : State := ((s.micro .cfgRst).micro .cfgDone).micro .i2cInit

/-- `INIT` reads the identity once it has brought the block up. -/
theorem exec_init_of_idle {g : Operand} {s : State} (hs : s.seq = .idle) :
    exec (.init g) s = .next ((s.accept (commandWord (.init g)) planInit).broughtUp.runLines
      [.xfer (.regRead regCid), .checkId, .complete .success]) := by
  rw [exec_of_idle (plan := planInit) rfl hs]
  rfl

/-- A command whose first line is a frame answered fail ends there, with the SPI initialisation done
(41_bus_transport.md R152, 60_exceptions.md R283). -/
theorem exec_of_firstFrame_fail {i : Instr} {x : Transfer} {rest : List Micro} {tx : List Byte} {s : State}
    (hp : planOf i = some (.xfer x :: rest)) (hx : encode (transferInstr x) = .spi tx) (hs : s.seq = .idle)
    (hk : (s.answer 0).ok = false) :
    exec i s = .next (spiCutShort s (commandWord i) tx (s.tx.load tx)
      (s.rx.load ((s.answer 0).bytes.take tx.length)) []) := by
  have htr := (State.transfer_of_encode_spi (s.accept (commandWord i) (.xfer x :: rest)) hx).trans
    (State.spiXfer_fail _ tx hk)
  rw [exec_of_idle hp hs, State.runLines_of_transfer_fatal htr rfl]
  cases hi : s.spiInit <;> simp [spiCutShort, hi]

/-- A command whose second line is a frame answered fail, after a frame done, ends there with the first frame sent. -/
theorem exec_of_secondFrame_fail {i : Instr} {x y : Transfer} {rest : List Micro} {tx tx' : List Byte} {s : State}
    (hp : planOf i = some (.xfer x :: .xfer y :: rest)) (hx : encode (transferInstr x) = .spi tx)
    (hy : encode (transferInstr y) = .spi tx') (hs : s.seq = .idle) (hk : (s.answer 0).ok = true)
    (hk' : (s.answer 1).ok = false) :
    exec i s = .next (spiCutShort s (commandWord i) tx' ((s.tx.load tx).load tx')
      ((s.rx.load ((s.answer 0).bytes.take tx.length)).load ((s.answer 1).bytes.take tx'.length))
      [.spiFrame tx ((s.answer 0).bytes.take tx.length)]) := by
  generalize hu : s.accept (commandWord i) (.xfer x :: .xfer y :: rest) = u
  have hb : u.busy = true := hu ▸ s.accept_busy _ _
  have hok : (u.answer 0).ok = true := hu ▸ hk
  have hfail : ((u.spiXfer tx).answer 0).ok = false := by rw [u.spiXfer_answer, ← hu]; exact hk'
  have hfirst : u.transfer x = u.spiXfer tx := u.transfer_of_encode_spi hx
  have hsecond := ((u.spiXfer tx).transfer_of_encode_spi hy).trans ((u.spiXfer tx).spiXfer_fail tx' hfail)
  rw [exec_of_idle hp hs, hu, State.runLines_of_transfer_busy hfirst (State.spiXfer_busy tx hb hok),
    State.runLines_of_transfer_fatal hsecond rfl, u.spiXfer_answer, u.spiXfer_ok tx hok]
  subst hu
  cases hi : s.spiInit <;> simp [spiCutShort, hi]

/-- Settles O51: the transfer that fails is the first line of the command, or `INIT`'s read after the bring-up, or the
second frame of a pair. -/
theorem otherTransfersCutShort : Obligations.OtherTransfersCutShort := by
  refine ⟨fun a b s hs he hk => ⟨?_, ?_⟩, fun ign s hs hk => ?_, fun ign i tx s hmem hs hk => ?_,
    fun ign s hs hk hk' => ⟨?_, ?_⟩⟩
  · exact exec_of_firstAccess_fail (i := .i2cRd a b) (x := .regRead a) rfl rfl hs he hk
  · exact exec_of_firstAccess_fail (i := .i2cWr a b) (x := .regWrite a b) rfl rfl hs he hk
  · have hread := (s.accept (commandWord (.init ign)) planInit).broughtUp.memRead_fail regCid rfl hk
    rw [exec_init_of_idle hs, State.runLines_of_transfer_fatal (x := .regRead regCid) hread rfl]
    simp [State.broughtUp, State.micro, commandWord, encode, regCid]
  · simp only [List.mem_cons, Prod.mk.injEq, List.not_mem_nil, or_false] at hmem
    rcases hmem with ⟨rfl, rfl⟩ | ⟨rfl, rfl⟩ | ⟨rfl, rfl⟩ | ⟨rfl, rfl⟩ | ⟨rfl, rfl⟩ <;>
      exact ⟨_, exec_of_firstFrame_fail rfl rfl hs hk⟩
  · exact ⟨_, exec_of_secondFrame_fail (i := .flReset ign) rfl rfl rfl hs hk hk'⟩
  · exact ⟨_, exec_of_secondFrame_fail (i := .flErase ign) rfl rfl rfl hs hk hk'⟩

/-! ### The flash and `i2c_en` (O58) -/

/-- `SpiXfer` does the same whatever `i2c_en` is, and leaves it (41_bus_transport.md R159). -/
theorem State.spiXfer_i2cEn (s : State) (b : Bool) (tx : List Byte) :
    State.spiXfer tx { s with i2cEn := b } = { s.spiXfer tx with i2cEn := b } := by
  cases hk : (s.answer 0).ok with
  | false => rw [s.spiXfer_fail tx hk]; exact State.spiXfer_fail _ tx hk
  | true => rw [s.spiXfer_ok tx hk]; exact State.spiXfer_ok _ tx hk

/-- So does every line but the register accesses and those of `INIT`. -/
theorem State.micro_i2cEn (s : State) (b : Bool) {m : Micro} (hreg : lineKind m ≠ .register)
    (hup : lineKind m ≠ .bringUp) : State.micro m { s with i2cEn := b } = { s.micro m with i2cEn := b } := by
  cases m with
  | xfer x =>
    cases x with
    | regWrite | regRead => exact absurd rfl hreg
    | _ => exact s.spiXfer_i2cEn b _
  | cfgRst | cfgDone | i2cInit => exact absurd rfl hup
  | checkInterlock | checkId | checkCapacity => simp only [State.micro]; split <;> rfl
  | _ => rfl

/-- And so do such lines one after another. -/
theorem State.runLines_i2cEn (b : Bool) {plan : List Micro}
    (hplan : ∀ m ∈ plan, lineKind m ≠ .register ∧ lineKind m ≠ .bringUp) (s : State) :
    State.runLines plan { s with i2cEn := b } = { s.runLines plan with i2cEn := b } := by
  induction plan generalizing s with
  | nil => rfl
  | cons m rest ih =>
    obtain ⟨hreg, hup⟩ := hplan m List.mem_cons_self
    rw [State.runLines_cons, State.runLines_cons, s.micro_i2cEn b hreg hup]
    cases hb : (s.micro m).busy with
    | false => rw [State.andThen_ended _ _ hb]; exact State.andThen_ended _ _ hb
    | true =>
      rw [State.andThen_busy _ _ hb, ← ih fun l hl => hplan l (List.mem_cons_of_mem m hl)]
      exact State.andThen_busy _ _ hb

/-- And so does a command of such lines, accepted or not. -/
theorem State.command_i2cEn (b : Bool) (i : Instr) {plan : List Micro}
    (hplan : ∀ m ∈ plan, lineKind m ≠ .register ∧ lineKind m ≠ .bringUp) (s : State) :
    State.command i plan { s with i2cEn := b } = { s.command i plan with i2cEn := b } := by
  by_cases hs : s.seq = .idle
  · rw [s.command_idle i plan hs, ← State.runLines_i2cEn b hplan]
    exact State.command_idle _ i plan hs
  · rw [s.command_not_idle i plan hs]
    exact State.command_not_idle _ i plan hs

/-- A flash command has only lines of its own bus (43_flash.md R220). -/
theorem lineKinds_of_isFlashCommand {i : Instr} (h : IsFlashCommand i) :
    IsCommand i ∧ .register ∉ lineKinds i ∧ .bringUp ∉ lineKinds i := by
  rcases h with ⟨g, rfl⟩ | ⟨g, rfl⟩ | ⟨g, rfl⟩ | ⟨g, rfl⟩ | ⟨g, rfl⟩ <;> simp [IsCommand, instrTransfer, lineKinds]

/-- Settles O58: no line of a flash command reads or writes `i2c_en`, and no line of `INIT` is about the flash. -/
theorem flashIndependentOfI2c : Obligations.FlashIndependentOfI2c := by
  refine ⟨fun i b s t hi he => ?_, fun g s t he => ?_⟩
  · rcases hi with hflash | ⟨tx, henc⟩
    · obtain ⟨hi, hreg, hup⟩ := lineKinds_of_isFlashCommand hflash
      obtain ⟨plan, hp⟩ := planOf_of_isCommand hi
      have hplan : ∀ m ∈ plan, lineKind m ≠ .register ∧ lineKind m ≠ .bringUp := fun m hm =>
        ⟨ne_of_mem_of_not_mem (lineKind_mem hp hm) hreg, ne_of_mem_of_not_mem (lineKind_mem hp hm) hup⟩
      rw [exec_command hp] at he ⊢
      cases he
      rw [State.command_i2cEn b i hplan]
    · rw [exec_of_encode_spi henc] at he ⊢
      cases he
      rw [s.spiXfer_i2cEn]
  · refine exec_keeps (P := fun u => u.spiInit = s.spiInit) (i := .init g) rfl he (fun _ _ h => h)
      (fun u m hm hu => ?_) rfl
    obtain ⟨hinit, -⟩ := u.micro_flash (ne_of_mem_of_not_mem hm (flash_notMem_lineKinds (by simp [IsFlashCommand])))
    exact hinit.trans hu

end Sys2Proof.Machine

/-! ## Proofs of the family 42_pmic_rails.md: the ghost `pmic_w` (O19, O9), the order of the writes of `SET_VFPGA 0`
(O37), the three rail commands done (O32 to O36) and cut short (O50)

A line that writes no register adds no event that changes `pmic_w`; a register write adds its own. The result of a rail
command is reached line by line (`Reached`): each transfer done adds its event, and the line that completes or fails
gives the command's next state. -/

namespace Sys2Proof.Machine

open Sys2Proof.Safety

/-! ### The events that change `pmic_w` -/

/-- The event changes what is known of a register (42_pmic_rails.md R196). -/
def TouchesPmic : Event → Prop
  | .i2cWr _ _ | .i2cFail .wr _ => True
  | _ => False

theorem pmicAfter_of_not_touchesPmic {e : Event} (h : ¬ TouchesPmic e) (m : Memory) : pmicAfter m e = m := by
  cases e with
  | i2cWr a d => exact absurd trivial h
  | i2cFail k a => cases k with
    | rd => rfl
    | wr => exact absurd trivial h
  | _ => rfl

theorem foldl_pmicAfter_of_not_touchesPmic {evs : List Event} (h : ∀ e ∈ evs, ¬ TouchesPmic e) (m : Memory) :
    evs.foldl pmicAfter m = m := by
  induction evs with
  | nil => rfl
  | cons e rest ih =>
    rw [List.foldl_cons, pmicAfter_of_not_touchesPmic (h e List.mem_cons_self)]
    exact ih fun e' he => h e' (List.mem_cons_of_mem e he)

/-- Any events keep the canonical form. -/
theorem foldl_pmicAfter_wf {m : Memory} (evs : List Event) (hm : Memory.wf m = true) :
    Memory.wf (evs.foldl pmicAfter m) = true := by
  induction evs generalizing m with
  | nil => exact hm
  | cons e rest ih => exact ih (pmicAfter_wf e hm)

/-- From the one state to the other nothing known of the PMIC changed, by the events added and in `pmic_w`. -/
def LeavesPmic (s t : State) : Prop :=
  ∃ evs, t.trace = s.trace ++ evs ∧ (∀ e ∈ evs, ¬ TouchesPmic e) ∧ t.pmicW = s.pmicW

/-- A frame and the SPI initialisation before it leave the PMIC (41_bus_transport.md R152). -/
theorem State.spiXfer_leavesPmic (s : State) (tx : List Byte) : LeavesPmic s (s.spiXfer tx) := by
  obtain ⟨_, failed, evs, ht, h⟩ := s.spiXfer_cases tx
  have hinit : ∀ e ∈ spiInitEvents s, ¬ TouchesPmic e := by unfold spiInitEvents; split <;> simp [TouchesPmic]
  have hevs : ∀ e ∈ evs, ¬ TouchesPmic e := by cases ht <;> simp [TouchesPmic]
  exact ⟨spiInitEvents s ++ evs, by rw [h], fun e he => (List.mem_append.1 he).elim (hinit e) (hevs e),
    s.spiXfer_pmicW tx⟩

theorem State.complete_leavesPmic (s : State) (r : Result) : LeavesPmic s (s.complete r) :=
  ⟨_, rfl, by simp [TouchesPmic], rfl⟩

theorem State.advance_leavesPmic (s : State) (n : Nat) : LeavesPmic s (s.advance n) :=
  ⟨[], by simp, by simp, rfl⟩

/-- So does every line that is no register write. -/
theorem State.micro_leavesPmic (s : State) {m : Micro} (hm : lineWrite m = none) : LeavesPmic s (s.micro m) := by
  cases m with
  | xfer x =>
    cases x with
    | regWrite a d => cases hm
    | regRead a =>
      simp only [State.micro, State.transfer]
      rcases s.memRead_cases a with ⟨_, _, hr⟩ | ⟨_, hr⟩ <;> rw [hr] <;> exact ⟨_, rfl, by simp [TouchesPmic], rfl⟩
    | _ => exact s.spiXfer_leavesPmic _
  | complete r => exact s.complete_leavesPmic r
  | checkInterlock =>
    simp only [State.micro]
    split
    · exact s.complete_leavesPmic _
    · exact s.advance_leavesPmic 0
  | checkId | checkCapacity =>
    simp only [State.micro]
    split
    · exact s.advance_leavesPmic 0
    · exact s.complete_leavesPmic _
  | storeByte | storeBusy | wait => exact ⟨[], by simp [State.micro], by simp, rfl⟩
  | _ => exact ⟨[_], rfl, by simp [TouchesPmic], rfl⟩

/-- The line that writes a register is `MemWrite`. -/
theorem eq_regWrite_of_lineWrite {m : Micro} {a d : Byte} (h : lineWrite m = some (a, d)) :
    m = .xfer (.regWrite a d) := by
  unfold lineWrite at h
  split at h <;> cases h
  rfl

/-! ### The ghost `pmic_w` (O19, O9) -/

/-- From the one state to the other the trace grew, and `pmic_w` changed as the new events say (42_pmic_rails.md
R196). -/
def GhostFollows (s t : State) : Prop :=
  ∃ evs, t.trace = s.trace ++ evs ∧ t.pmicW = evs.foldl pmicAfter s.pmicW

theorem GhostFollows.ghostPmic {s t : State} (h : GhostFollows s t) (hs : GhostPmic s) : GhostPmic t := by
  obtain ⟨evs, htr, hmem⟩ := h
  obtain ⟨hghost, hwf⟩ := hs
  rw [GhostPmic, htr, hmem]
  exact ⟨by rw [hghost, pmicOfTrace, pmicOfTrace, List.foldl_append], foldl_pmicAfter_wf evs hwf⟩

/-- Every line: a register write by its own event, any other by events that change nothing known. -/
theorem State.micro_ghostFollows (s : State) (m : Micro) : GhostFollows s (s.micro m) := by
  cases hm : lineWrite m with
  | none =>
    obtain ⟨evs, htr, hno, hmem⟩ := s.micro_leavesPmic hm
    exact ⟨evs, htr, by rw [hmem, foldl_pmicAfter_of_not_touchesPmic hno]⟩
  | some w =>
    obtain ⟨a, d⟩ := w
    obtain rfl := eq_regWrite_of_lineWrite hm
    simp only [State.micro, State.transfer]
    rcases s.memWrite_cases a d with ⟨_, hw⟩ | ⟨_, hw⟩ <;> rw [hw] <;> exact ⟨_, rfl, rfl⟩

theorem ghostPmic_keptByMoves : KeptByMoves GhostPmic where
  reset _ := ⟨rfl, rfl⟩
  ports _ _ h := h
  pinWrite _ l _ h := GhostFollows.ghostPmic ⟨[.pinSet l], rfl, rfl⟩ h
  accept _ _ _ h _ _ := GhostFollows.ghostPmic ⟨[.accept _], rfl, rfl⟩ h
  line s _ m _ _ h := (s.micro_ghostFollows m).ghostPmic h
  tick _ _ _ _ h := h

/-- Settles O19: every move of a step changes `pmic_w` as the events it adds say. -/
theorem ghostPmicKept : Obligations.GhostPmicKept :=
  ⟨fun _ _ => ghostPmic_keptByMoves.step, ghostPmic_keptByMoves.accept⟩

/-- Settles O9: reading after a write, and after a failed one. -/
theorem memoryReadAfterWrite : Obligations.MemoryReadAfterWrite :=
  fun m a b d => ⟨Memory.read_write m a b d, Memory.read_forget m a b⟩

/-! ### The order of a command's writes (O37) -/

/-- The register write an event is, if it is a done one. -/
def eventWrite : Event → Option (Byte × Byte)
  | .i2cWr a d => some (a, d)
  | _ => none

theorem eq_i2cWr_of_eventWrite {e : Event} {a d : Byte} (h : eventWrite e = some (a, d)) : e = .i2cWr a d := by
  unfold eventWrite at h
  split at h <;> cases h
  rfl

theorem filterMap_eventWrite_of_not_touchesPmic {evs : List Event} (h : ∀ e ∈ evs, ¬ TouchesPmic e) :
    evs.filterMap eventWrite = [] := by
  refine List.filterMap_eq_nil_iff.2 fun e he => ?_
  cases hw : eventWrite e with
  | none => rfl
  | some w =>
    cases eq_i2cWr_of_eventWrite (a := w.1) (d := w.2) hw
    exact absurd trivial (h _ he)

/-- A line adds the write it is, or fails to and ends the command. -/
theorem State.micro_writes (s : State) (m : Micro) :
    ∃ evs, (s.micro m).trace = s.trace ++ evs ∧ (evs.filterMap eventWrite = (lineWrite m).toList ∨
      ((s.micro m).busy = false ∧ evs.filterMap eventWrite = [])) := by
  cases hm : lineWrite m with
  | none =>
    obtain ⟨evs, htr, hno, -⟩ := s.micro_leavesPmic hm
    exact ⟨evs, htr, .inl (filterMap_eventWrite_of_not_touchesPmic hno)⟩
  | some w =>
    obtain ⟨a, d⟩ := w
    obtain rfl := eq_regWrite_of_lineWrite hm
    simp only [State.micro, State.transfer]
    rcases s.memWrite_cases a d with ⟨_, hw⟩ | ⟨_, hw⟩ <;> rw [hw]
    · exact ⟨_, rfl, .inl rfl⟩
    · exact ⟨_, rfl, .inr ⟨rfl, rfl⟩⟩

/-- The writes that lines add to the trace are the first of those the lines are, in the lines' order. -/
theorem State.runLines_writes (plan : List Micro) (s : State) :
    ∃ evs, (s.runLines plan).trace = s.trace ++ evs ∧ evs.filterMap eventWrite <+: plan.filterMap lineWrite := by
  induction plan generalizing s with
  | nil => exact ⟨[], by simp, List.prefix_rfl⟩
  | cons m rest ih =>
    obtain ⟨evs, htr, hevs⟩ := s.micro_writes m
    have hsplit : (m :: rest).filterMap lineWrite = (lineWrite m).toList ++ rest.filterMap lineWrite := by
      cases hm : lineWrite m <;> simp [hm]
    rw [State.runLines_cons, hsplit]
    cases hb : (s.micro m).busy with
    | false =>
      rw [State.andThen_ended _ _ hb]
      refine ⟨evs, htr, ?_⟩
      rcases hevs with hw | ⟨-, hw⟩ <;> rw [hw]
      · exact List.prefix_append _ _
      · exact List.nil_prefix
    | true =>
      obtain ⟨evs', htr', hpre⟩ := ih (s.micro m)
      have hw := hevs.resolve_right fun h => by rw [hb] at h; cases h.1
      rw [State.andThen_busy _ _ hb]
      exact ⟨evs ++ evs', by rw [htr', htr, List.append_assoc],
        by rwa [List.filterMap_append, hw, List.prefix_append_right_inj]⟩

/-- So are the writes that a command adds, completed, aborted or not accepted. -/
theorem exec_writes {i : Instr} {plan : List Micro} {s t : State} (hp : planOf i = some plan)
    (he : exec i s = .next t) :
    ∃ evs, t.trace = s.trace ++ evs ∧ evs.filterMap eventWrite <+: plan.filterMap lineWrite := by
  rw [exec_command hp] at he
  cases he
  by_cases hs : s.seq = .idle
  · obtain ⟨evs, htr, hpre⟩ := State.runLines_writes plan (s.accept (commandWord i) plan)
    rw [s.command_idle i plan hs]
    exact ⟨.accept (commandWord i) :: evs, by simp [htr], hpre⟩
  · rw [s.command_not_idle i plan hs]
    exact ⟨[], by simp, List.nil_prefix⟩

/-- Where the core rail's control register is reached among the first writes of `SET_VFPGA 0`, Vio's disable pattern is
among the writes before it (42_pmic_rails.md R187). -/
theorem vioDis_mem_of_writes {ws rest : List (Byte × Byte)} {d : Byte}
    (h : ws ++ (0x2C, d) :: rest <+: [(0x2B, vfpgaTgt), (0x39, vioDis), (0x2C, vfpgaDis)]) : (0x39, vioDis) ∈ ws := by
  rcases ws with _ | ⟨w, _ | ⟨w', ws⟩⟩
  · simp at h
  · simp at h
  · obtain ⟨-, rfl, -⟩ : w = _ ∧ w' = (0x39, vioDis) ∧ _ := by simpa [List.cons_prefix_cons] using h
    simp

/-- Settles O37: the writes added are the first of the three of `SET_VFPGA 0`, the core rail's control register is the
last of them, and Vio's disable pattern the one before. -/
theorem vioOffBeforeVfpgaOff : Obligations.VioOffBeforeVfpgaOff := by
  intro ign s t pre post d he htr
  obtain ⟨evs, htr', hpre⟩ := exec_writes (i := .setVfpga ign false) rfl he
  obtain rfl : evs = pre ++ .i2cWr 0x2C d :: post := List.append_cancel_left (htr'.symm.trans htr)
  rw [List.filterMap_append] at hpre
  have hwrites : pre.filterMap eventWrite ++ (0x2C, d) :: post.filterMap eventWrite <+:
      [(0x2B, vfpgaTgt), (0x39, vioDis), (0x2C, vfpgaDis)] := hpre
  obtain ⟨e, hmem, hw⟩ := List.mem_filterMap.1 (vioDis_mem_of_writes hwrites)
  rwa [eq_i2cWr_of_eventWrite hw] at hmem

/-! ### A command on the PMIC, line after line -/

/-- The load-switch bit is set exactly where the masked byte is not zero (42_pmic_rails.md R190). -/
theorem loadSwitchSet_iff {c : Byte} : loadSwitchSet c = true ↔ c &&& vioLswMask ≠ 0 := by
  simp [loadSwitchSet]

/-- A command of word `w`, given to `s`, after the transfers `evs`: each asked for one answer and is in the trace and in
`pmic_w`, and the byte last read is `ret` (log 3). -/
def State.midway (s : State) (w : Word) (evs : List Event) (ret : Byte) (seq : Seq) : State :=
  { s with
    cmd := w, seq := seq, rspValid := false, ret := ret, asked := s.asked + evs.length,
    pmicW := evs.foldl pmicAfter s.pmicW, trace := s.trace ++ .accept w :: evs }

/-- The command of word `w`, given to `s`, completed with `r` after the transfers `evs`. -/
def i2cCompleted (s : State) (w : Word) (evs : List Event) (ret : Byte) (r : Result) : State :=
  { s with
    cmd := w, status := r, seq := .idle, rspValid := true, ret := ret, asked := s.asked + evs.length,
    pmicW := evs.foldl pmicAfter s.pmicW, trace := s.trace ++ (.accept w :: evs ++ [.complete w r s.rdata]) }

theorem State.midway_complete (s : State) (w : Word) (evs : List Event) (ret : Byte) (seq : Seq) (r : Result) :
    (s.midway w evs ret seq).complete r = i2cCompleted s w evs ret r := by
  simp [State.midway, State.complete, i2cCompleted]

/-- The command `i`, given to `s`, has made the transfers `evs`, the byte last read is `ret`, and it goes on with the
lines `rest`. -/
def Reached (i : Instr) (s : State) (evs : List Event) (ret : Byte) (rest : List Micro) : Prop :=
  ∃ k todo, exec i s = .next ((s.midway (commandWord i) evs ret (.run k todo)).runLines rest)

/-- Acceptance: all the lines are to do (10_state.md R26). -/
theorem Reached.start {i : Instr} {plan : List Micro} {s : State} (hp : planOf i = some plan) (hs : s.seq = .idle) :
    Reached i s [] s.ret plan :=
  ⟨0, plan, exec_of_idle hp hs⟩

section Reached
variable {i : Instr} {s : State} {evs : List Event} {ret a d : Byte} {rest : List Micro}

/-- Past a register write answered ok (41_bus_transport.md R151). -/
theorem Reached.write (h : Reached i s evs ret (.xfer (.regWrite a d) :: rest)) (he : s.i2cEn = true)
    (hk : (s.answer evs.length).ok = true) : Reached i s (evs ++ [.i2cWr a d]) ret rest := by
  obtain ⟨k, todo, h⟩ := h
  have hw := (s.midway (commandWord i) evs ret (.run k todo)).memWrite_ok a d he hk
  rw [State.runLines_of_transfer_busy (x := .regWrite a d) hw rfl] at h
  exact ⟨k + 1, todo.tail, by simp [h, State.midway, pmicAfter, Nat.add_assoc]⟩

/-- Past a register read answered ok, whose byte is kept (41_bus_transport.md R150). -/
theorem Reached.read (h : Reached i s evs ret (.xfer (.regRead a) :: rest)) (he : s.i2cEn = true)
    (hk : (s.answer evs.length).ok = true) :
    Reached i s (evs ++ [.i2cRd a (s.answer evs.length).bytes.b0]) (s.answer evs.length).bytes.b0 rest := by
  obtain ⟨k, todo, h⟩ := h
  have hr := (s.midway (commandWord i) evs ret (.run k todo)).memRead_ok a he hk
  rw [State.runLines_of_transfer_busy (x := .regRead a) hr rfl] at h
  exact ⟨k + 1, todo.tail, by simp [h, State.midway, State.answer, pmicAfter, Nat.add_assoc]⟩

/-- Past the interlock, with the load-switch bit clear (42_pmic_rails.md R190). -/
theorem Reached.permit (h : Reached i s evs ret (.checkInterlock :: rest)) (hc : ret &&& vioLswMask = 0) :
    Reached i s evs ret rest := by
  obtain ⟨k, todo, h⟩ := h
  have hm : State.micro .checkInterlock (s.midway (commandWord i) evs ret (.run k todo)) =
      s.midway (commandWord i) evs ret (.run k todo.tail) := if_neg (fun hset => loadSwitchSet_iff.1 hset hc)
  rw [State.runLines_cons, hm, State.andThen_busy _ _ rfl] at h
  exact ⟨k, todo.tail, h⟩

/-- At the interlock with the load-switch bit set the command completes (42_pmic_rails.md R190). -/
theorem Reached.reject (h : Reached i s evs ret (.checkInterlock :: rest)) (hc : ret &&& vioLswMask ≠ 0) :
    exec i s = .next (i2cCompleted s (commandWord i) evs ret .invalidSetting) := by
  obtain ⟨k, todo, h⟩ := h
  have hm : State.micro .checkInterlock (s.midway (commandWord i) evs ret (.run k todo)) =
      i2cCompleted s (commandWord i) evs ret .invalidSetting :=
    (if_pos (loadSwitchSet_iff.2 hc)).trans (s.midway_complete _ _ _ _ _)
  rwa [State.runLines_cons, hm, State.andThen_ended _ _ rfl] at h

/-- At the line that completes (10_state.md R27). -/
theorem Reached.complete {r : Result} (h : Reached i s evs ret (.complete r :: rest)) :
    exec i s = .next (i2cCompleted s (commandWord i) evs ret r) := by
  obtain ⟨k, todo, h⟩ := h
  rwa [State.runLines_complete, State.midway_complete] at h

/-- At a register access answered fail the command is cut short (60_exceptions.md R283 to R285). -/
theorem Reached.cutShort {x : Transfer} {f : Event} (h : Reached i s evs ret (.xfer x :: rest))
    (hx : accessFailure x = some f) (he : s.i2cEn = true) (hk : (s.answer evs.length).ok = false) :
    exec i s = .next { i2cCutShort s (commandWord i) (evs ++ [f]) with ret := ret } := by
  obtain ⟨k, todo, h⟩ := h
  have hf := (s.midway (commandWord i) evs ret (.run k todo)).transfer_access_fail hx he hk
  rw [h, State.runLines_of_transfer_fatal hf rfl]
  simp [State.midway, i2cCutShort, Nat.add_assoc]

end Reached

/-! ### The lines of the rail commands, by their operand -/

/-- The lines that switch a rail on at a code (42_pmic_rails.md R193). -/
def enableLines (r : Rail) (k : Byte) : List Micro :=
  [.xfer (.regWrite (railTarget r) k), .xfer (.regWrite (railControl r) (railEnable r)), .complete .success]

theorem setRailLines_of_code {r : Rail} {mv : Operand} {k : Byte} (h0 : mv.toNat ≠ 0) :
    setRailLines r mv (some k) = enableLines r k := if_neg h0

theorem vauxRejected_iff {mv : Operand} :
    vauxRejected mv = true ↔ mv.toNat ≠ 0 ∧ (mv.toNat < 800 ∨ 5500 < mv.toNat) := by
  simp [vauxRejected]

theorem vioRejected_iff {mv : Operand} :
    vioRejected mv = true ↔ mv.toNat ≠ 0 ∧ (mv.toNat < 800 ∨ 3460 < mv.toNat) := by
  simp [vioRejected]

theorem needsInterlock_iff {mv : Operand} : needsInterlock mv = true ↔ 3460 < mv.toNat := by
  simp [needsInterlock]

section Plans
variable {mv : Operand}

/-- 42_pmic_rails.md R184: 800 to 3460 millivolts. -/
theorem planSetVaux_of_low (hlo : 800 ≤ mv.toNat) (hhi : mv.toNat ≤ 3460) :
    planSetVaux mv = enableLines .vaux (BitVec.ofNat 8 ((mv.toNat - 775) / 50)) := by
  have hcode : encVaux mv = some (BitVec.ofNat 8 ((mv.toNat - 775) / 50)) := if_pos ⟨hlo, by omega⟩
  rw [planSetVaux_eq, if_neg (by rw [vauxRejected_iff]; omega), if_neg (by rw [needsInterlock_iff]; omega), hcode,
    setRailLines_of_code (by omega), List.nil_append]

/-- 42_pmic_rails.md R184, R190: above 3460 millivolts the interlock comes first. -/
theorem planSetVaux_of_high (hlo : 3461 ≤ mv.toNat) (hhi : mv.toNat ≤ 5500) :
    planSetVaux mv = .xfer (.regRead regVioCtl) :: .checkInterlock ::
      enableLines .vaux (BitVec.ofNat 8 ((mv.toNat - 775) / 50)) := by
  have hcode : encVaux mv = some (BitVec.ofNat 8 ((mv.toNat - 775) / 50)) := if_pos ⟨by omega, hhi⟩
  rw [planSetVaux_eq, if_neg (by rw [vauxRejected_iff]; omega), if_pos (needsInterlock_iff.2 hlo), hcode,
    setRailLines_of_code (by omega)]
  rfl

/-- 42_pmic_rails.md R186: 800 to 3460 millivolts. -/
theorem planSetVio_of_inRange (hlo : 800 ≤ mv.toNat) (hhi : mv.toNat ≤ 3460) :
    planSetVio mv = enableLines .vio (BitVec.ofNat 8 ((2 * mv.toNat - 1575) / 50)) := by
  have hcode : encVio mv = some (BitVec.ofNat 8 ((2 * mv.toNat - 1575) / 50)) := if_pos ⟨hlo, hhi⟩
  rw [planSetVio_eq, if_neg (by rw [vioRejected_iff]; omega), hcode, setRailLines_of_code (by omega)]

end Plans

section RailsReached
variable {mv : Operand} {s : State}

theorem reached_setVaux_low (hlo : 800 ≤ mv.toNat) (hhi : mv.toNat ≤ 3460) (hs : s.seq = .idle) :
    Reached (.setVaux mv) s [] s.ret (enableLines .vaux (BitVec.ofNat 8 ((mv.toNat - 775) / 50))) :=
  .start (congrArg some (planSetVaux_of_low hlo hhi)) hs

theorem reached_setVaux_high (hlo : 3461 ≤ mv.toNat) (hhi : mv.toNat ≤ 5500) (hs : s.seq = .idle) :
    Reached (.setVaux mv) s [] s.ret (.xfer (.regRead regVioCtl) :: .checkInterlock ::
      enableLines .vaux (BitVec.ofNat 8 ((mv.toNat - 775) / 50))) :=
  .start (congrArg some (planSetVaux_of_high hlo hhi)) hs

theorem reached_setVio (hlo : 800 ≤ mv.toNat) (hhi : mv.toNat ≤ 3460) (hs : s.seq = .idle) :
    Reached (.setVio mv) s [] s.ret (enableLines .vio (BitVec.ofNat 8 ((2 * mv.toNat - 1575) / 50))) :=
  .start (congrArg some (planSetVio_of_inRange hlo hhi)) hs

theorem reached_setVaux_zero (hs : s.seq = .idle) :
    Reached (.setVaux 0) s [] s.ret [.xfer (.regWrite regVauxCtl vauxDis), .complete .success] :=
  .start rfl hs

theorem reached_setVio_zero (hs : s.seq = .idle) :
    Reached (.setVio 0) s [] s.ret [.xfer (.regWrite regVioCtl vioDis), .complete .success] :=
  .start rfl hs

theorem reached_setVfpga (ign : BitVec 15) (en : Bool) (hs : s.seq = .idle) :
    Reached (.setVfpga ign en) s [] s.ret (planSetVfpga en) :=
  .start rfl hs

end RailsReached

/-! ### The rail commands (O32 to O36, O50) -/

/-- Settles O32: the one write of the control register, or the target and then the control register. -/
theorem setVauxWithoutInterlock : Obligations.SetVauxWithoutInterlock := by
  refine ⟨fun s hs he hk => ?_, fun mv s hlo hhi hs he hk hk' => ?_⟩
  · exact ((reached_setVaux_zero hs).write he hk).complete
  · exact (((reached_setVaux_low hlo hhi hs).write he hk).write he hk').complete

/-- Settles O33: the read, and then the two writes or the rejection by the byte read. -/
theorem setVauxInterlock : Obligations.SetVauxInterlock := by
  refine ⟨fun mv s hlo hhi hs he hk hc hk' hk'' => ?_, fun mv s hlo hhi hs he hk hc => ?_⟩
  · exact (((((reached_setVaux_high hlo hhi hs).read he hk).permit hc).write he hk').write he hk'').complete
  · exact ((reached_setVaux_high hlo hhi hs).read he hk).reject hc

/-- Settles O34: the one write of the control register, or the target and then the control register. -/
theorem setVioResult : Obligations.SetVioResult := by
  refine ⟨fun s hs he hk => ?_, fun mv s hlo hhi hs he hk hk' => ?_⟩
  · exact ((reached_setVio_zero hs).write he hk).complete
  · exact (((reached_setVio hlo hhi hs).write he hk).write he hk').complete

/-- Settles O35: the range check is the first line and ends the command. -/
theorem rangeRejects : Obligations.RangeRejects := by
  refine ⟨fun mv s h0 hout hs => ?_, fun mv s h0 hout hs => ?_⟩
  · have hp : planSetVaux mv = [.complete .invalidSetting] := if_pos (vauxRejected_iff.2 ⟨h0, by omega⟩)
    exact (Reached.start (i := .setVaux mv) (congrArg some hp) hs).complete
  · have hp : planSetVio mv = [.complete .invalidSetting] := if_pos (vioRejected_iff.2 ⟨h0, by omega⟩)
    exact (Reached.start (i := .setVio mv) (congrArg some hp) hs).complete

/-- Settles O36: the two writes, or the three. -/
theorem setVfpgaResult : Obligations.SetVfpgaResult := by
  refine ⟨fun ign s hs he hk hk' => ?_, fun ign s hs he hk hk' hk'' => ?_⟩
  · exact (((reached_setVfpga ign true hs).write he hk).write he hk').complete
  · exact ((((reached_setVfpga ign false hs).write he hk).write he hk').write he hk'').complete

/-- Settles O50: each command reaches the transfer that fails, past those before it. -/
theorem railTransfersCutShort : Obligations.RailTransfersCutShort := by
  refine ⟨fun s hs he hk => ⟨?_, ?_⟩, fun mv s hlo hhi hs he => ⟨fun hk => ⟨?_, ?_⟩, fun hk hk' => ⟨?_, ?_⟩⟩,
    fun mv s hlo hhi hs he => ⟨fun hk => ?_, fun hk hc hk' => ?_, fun hk hc hk' hk'' => ?_⟩,
    fun ign en s hs he hk => ?_, fun ign s hs he hk hk' => ⟨?_, ?_⟩, fun ign s hs he hk hk' hk'' => ?_⟩
  · exact (reached_setVaux_zero hs).cutShort rfl he hk
  · exact (reached_setVio_zero hs).cutShort rfl he hk
  · exact (reached_setVaux_low hlo hhi hs).cutShort rfl he hk
  · exact (reached_setVio hlo hhi hs).cutShort rfl he hk
  · exact ((reached_setVaux_low hlo hhi hs).write he hk).cutShort rfl he hk'
  · exact ((reached_setVio hlo hhi hs).write he hk).cutShort rfl he hk'
  · exact (reached_setVaux_high hlo hhi hs).cutShort rfl he hk
  · exact (((reached_setVaux_high hlo hhi hs).read he hk).permit hc).cutShort rfl he hk'
  · exact ((((reached_setVaux_high hlo hhi hs).read he hk).permit hc).write he hk').cutShort rfl he hk''
  · exact (reached_setVfpga ign en hs).cutShort rfl he hk
  · exact ((reached_setVfpga ign true hs).write he hk).cutShort rfl he hk'
  · exact ((reached_setVfpga ign false hs).write he hk).cutShort rfl he hk'
  · exact (((reached_setVfpga ign false hs).write he hk).write he hk').cutShort rfl he hk''

end Sys2Proof.Machine

/-! ## Proofs of the family 43_flash.md: the flash commands done (O39 to O43)

A flash command's result is reached line by line (`Arrives`): each line done gives the state the next one starts in, up
to the sequencer's count, and the line that completes gives the command's next state. -/

namespace Sys2Proof.Machine

open Sys2Proof.Safety

/-! ### A command, line after line -/

/-- The command `i`, given to `s`, comes to the lines `rest` in the state `t`, whatever the sequencer has counted. -/
def Arrives (i : Instr) (s t : State) (rest : List Micro) : Prop :=
  ∃ k todo, exec i s = .next (State.runLines rest { t with seq := .run k todo })

/-- The block after a frame answered ok (41_bus_transport.md R152). -/
def State.framed (t : State) (tx : List Byte) : State :=
  { t with
    spiInit := true, tx := t.tx.load tx, len := tx.length, rx := t.rx.load ((t.answer 0).bytes.take tx.length),
    asked := t.asked + 1, trace := t.trace ++ (spiInitEvents t ++ [.spiFrame tx ((t.answer 0).bytes.take tx.length)]) }

section Arrives
variable {i : Instr} {s t u : State} {m : Micro} {x : Transfer} {tx : List Byte} {rest : List Micro}

/-- Acceptance: all the lines are to do (10_state.md R26). -/
theorem Arrives.start {plan : List Micro} (hp : planOf i = some plan) (hs : s.seq = .idle) :
    Arrives i s (s.accept (commandWord i) plan) plan :=
  ⟨0, plan, exec_of_idle hp hs⟩

/-- Past a line that leaves the command in progress (10_state.md R28). -/
theorem Arrives.line (h : Arrives i s t (m :: rest))
    (hm : ∀ k todo, ∃ k' todo', State.micro m { t with seq := .run k todo } = { u with seq := .run k' todo' }) :
    Arrives i s u rest := by
  obtain ⟨k, todo, h⟩ := h
  obtain ⟨k', todo', hu⟩ := hm k todo
  rw [State.runLines_cons, hu, State.andThen_busy _ _ rfl] at h
  exact ⟨k', todo', h⟩

/-- At a line that completes, outright or by its test, the command ends (10_state.md R27). -/
theorem Arrives.ends {r : Result} (h : Arrives i s t (m :: rest))
    (hm : ∀ k todo, State.micro m { t with seq := .run k todo } = t.complete r) :
    exec i s = .next (t.complete r) := by
  obtain ⟨k, todo, h⟩ := h
  rwa [State.runLines_cons, hm, State.andThen_ended _ _ (t.complete_busy r)] at h

theorem Arrives.complete {r : Result} (h : Arrives i s t (.complete r :: rest)) : exec i s = .next (t.complete r) :=
  h.ends fun _ _ => rfl

/-- Past a frame answered ok (41_bus_transport.md R152). -/
theorem Arrives.frame (h : Arrives i s t (.xfer x :: rest)) (hx : encode (transferInstr x) = .spi tx)
    (hk : (t.answer 0).ok = true) : Arrives i s (t.framed tx) rest := by
  refine h.line fun k todo => ?_
  have hframe := (State.transfer_of_encode_spi { t with seq := .run k todo } hx).trans (State.spiXfer_ok _ tx hk)
  have hseq : (if t.spiInit then Seq.run k todo else (Seq.run k todo).count).pop 1 =
      .run ((if t.spiInit then k else k + 1) + 1) todo.tail := by cases t.spiInit <;> rfl
  exact ⟨_, _, hframe.trans (congrArg (fun seq => { t.framed tx with seq := seq }) hseq)⟩

/-- Past a delay, loaded and run down (60_exceptions.md R292, R293). -/
theorem Arrives.delay {us : Nat} (h : Arrives i s t (.delay us :: .wait :: rest)) :
    Arrives i s { t with dly := 0, trace := t.trace ++ [.delay us] } rest := by
  have hloaded : Arrives i s { t with dly := delayTicks us, trace := t.trace ++ [.delay us] } (.wait :: rest) :=
    h.line fun k todo => ⟨k + 0, todo.tail, rfl⟩
  exact hloaded.line fun k todo => ⟨k + 1, todo.tail, by simp [State.micro]⟩

/-- Past the store of the busy bit (43_flash.md R229). -/
theorem Arrives.storeBusy (h : Arrives i s t (.storeBusy :: rest)) :
    Arrives i s { t with rdata := t.rx.b1 &&& 1 } rest :=
  h.line fun k todo => ⟨k + 0, todo.tail, by simp [State.micro, bitZero_eq_and_one]⟩

/-- The capacity test and the line after it complete with `Success` at the expected byte, else with `FlashError`
(43_flash.md R225). -/
theorem Arrives.checkCapacity (h : Arrives i s t [.checkCapacity, .complete .success]) :
    exec i s = .next (t.complete (if t.rx.b3 = 0x16 then .success else .flashError)) := by
  by_cases hcap : t.rx.b3 = 0x16
  · have hgood : Arrives i s t [.complete .success] := h.line fun k todo => ⟨k + 0, todo.tail, if_pos hcap⟩
    rw [if_pos hcap, hgood.complete]
  · rw [if_neg hcap, h.ends fun _ _ => if_neg hcap]

end Arrives

/-! ### The flash commands (O39 to O43) -/

/-- Settles O39: the frame and the delay. -/
theorem flWakeResult : Obligations.FlWakeResult := by
  intro ign s hs hk
  have hend := ((Arrives.start (i := .flWake ign) rfl hs).frame rfl hk).delay.complete
  rw [hend]
  simp only [State.framed, State.complete, State.accept, List.append_assoc]
  rfl

/-- Settles O40: the two frames and the delay. -/
theorem flResetResult : Obligations.FlResetResult := by
  intro ign s hs hk hk'
  have hend := (((Arrives.start (i := .flReset ign) rfl hs).frame rfl hk).frame rfl hk').delay.complete
  rw [hend]
  simp only [State.framed, State.complete, State.accept, List.append_assoc]
  rfl

/-- Settles O41: the frame and the test of the byte it returned. -/
theorem flIdentResult : Obligations.FlIdentResult := by
  intro ign s hs hk
  have hend := ((Arrives.start (i := .flIdent ign) rfl hs).frame rfl hk).checkCapacity
  rw [hend]
  simp only [State.framed, State.complete, State.accept, List.append_assoc]
  rfl

/-- Settles O42: the two frames. -/
theorem flEraseResult : Obligations.FlEraseResult := by
  intro ign s hs hk hk'
  have hend := (((Arrives.start (i := .flErase ign) rfl hs).frame rfl hk).frame rfl hk').complete
  rw [hend]
  simp only [State.framed, State.complete, State.accept, List.append_assoc]
  rfl

/-- Settles O43: the frame and the store of the busy bit. -/
theorem flBusyResult : Obligations.FlBusyResult := by
  intro ign s hs hk
  have hend := ((Arrives.start (i := .flBusy ign) rfl hs).frame rfl hk).storeBusy.complete
  rw [hend]
  simp only [State.framed, State.complete, State.accept, List.append_assoc]
  rfl

end Sys2Proof.Machine

/-! ## Proofs of the family 44_fpga_reset.md: the step of an idle block (O12), `FPGA_HOLD` (O44), who releases the reset
(O57)

That no instruction releases the reset is a property of one line (`HoldsReset`), carried along a command's lines; the
step that does release it is then found among the turns a block can take. -/

namespace Sys2Proof.Machine

open Sys2Proof.Safety

/-! ### The step of an idle block (O12) -/

/-- Settles O12: the two turns of an idle block that take no command. -/
theorem stepOfIdleBlock : Obligations.StepOfIdleBlock :=
  ⟨fun _ _ _ hrst hs hi => step_of_pinWrite hrst hs hi, fun _ hrst hs hi => step_of_no_input hrst hs hi⟩

/-! ### `FPGA_HOLD` (O44) -/

/-- Past the line that clears the latch (44_fpga_reset.md R250). -/
theorem Arrives.pinLow {i : Instr} {s t : State} {rest : List Micro} (h : Arrives i s t (.pinLow :: rest)) :
    Arrives i s { t with pinRst := false, trace := t.trace ++ [.pinSet false] } rest :=
  h.line fun k todo => ⟨k + 1, todo.tail, rfl⟩

/-- Settles O44: the latch is cleared and the command completes. -/
theorem fpgaHoldResult : Obligations.FpgaHoldResult := by
  intro ign s hs
  rw [(Arrives.start (i := .fpgaHold ign) rfl hs).pinLow.complete]
  simp only [State.complete, State.accept, List.append_assoc]
  rfl

/-! ### No instruction releases the reset (O57) -/

/-- From the one state to the other the latch was not raised, and the trace grew without a `PinSet(RST, 1)`. -/
structure HoldsReset (s t : State) : Prop where
  latch : t.pinRst = true → s.pinRst = true
  trace : ∃ evs, t.trace = s.trace ++ evs ∧ Event.pinSet true ∉ evs

theorem HoldsReset.refl (s : State) : HoldsReset s s := ⟨id, [], by simp, by simp⟩

theorem HoldsReset.trans {s t u : State} (h : HoldsReset s t) (h' : HoldsReset t u) : HoldsReset s u := by
  obtain ⟨hlatch, evs, htr, hno⟩ := h
  obtain ⟨hlatch', evs', htr', hno'⟩ := h'
  exact ⟨hlatch ∘ hlatch', evs ++ evs', by rw [htr', htr, List.append_assoc], by simp [hno, hno']⟩

/-- Where the latch is as it was, events that set nothing hold no `PinSet(RST, 1)`. -/
theorem HoldsReset.of_plain {s t : State} {evs : List Event} (hpin : t.pinRst = s.pinRst)
    (htr : t.trace = s.trace ++ evs) (hset : ∀ e ∈ evs, ¬ IsSetting e) : HoldsReset s t :=
  ⟨fun h => hpin ▸ h, evs, htr, fun he => hset _ he trivial⟩

theorem State.transfer_holdsReset (s : State) (x : Transfer) : HoldsReset s (s.transfer x) := by
  obtain ⟨evs, htr, hset, -⟩ := s.transfer_plain x
  exact .of_plain (s.transfer_pinRst x) htr hset

/-- A line that is about neither the pins nor the bring-up holds the reset. -/
theorem State.micro_holdsReset_of_plain (s : State) {m : Micro} (hb : lineKind m ≠ .bringUp) (hp : lineKind m ≠ .pin) :
    HoldsReset s (s.micro m) := by
  obtain ⟨evs, htr, hset, -⟩ := s.micro_plain hb hp
  exact .of_plain (s.micro_pinRst hp) htr hset

/-- The one line that sets the latch clears it (44_fpga_reset.md R250, R251). -/
theorem State.micro_holdsReset (s : State) (m : Micro) : HoldsReset s (s.micro m) := by
  cases m with
  | pinLow => exact ⟨nofun, [.pinSet false], rfl, by simp⟩
  | cfgRst | cfgDone | i2cInit => exact ⟨id, [_], rfl, by simp⟩
  | xfer x => exact s.transfer_holdsReset x
  | _ => exact s.micro_holdsReset_of_plain nofun nofun

/-- In one clock a line changes the latch as it does done whole. -/
theorem State.microTick_pinRst (s : State) (m : Micro) : (s.microTick m).pinRst = (s.micro m).pinRst := by
  by_cases hm : m = .wait
  · subst hm
    simp only [State.microTick]
    split <;> rfl
  · rw [State.microTick_of_ne_wait s hm]

theorem exec_holdsReset {i : Instr} {s t : State} (he : exec i s = .next t) : HoldsReset s t := by
  rcases exec_cases i s with ⟨plan, -, h⟩ | ⟨x, -, h⟩ <;> rw [h] at he <;> cases he
  · refine State.command_keeps (P := HoldsReset s) i plan s (fun u hu => hu.trans ?_)
      (fun m u hu => hu.trans (u.micro_holdsReset m)) (HoldsReset.refl s)
    exact ⟨id, [.accept (commandWord i)], rfl, by simp⟩
  · exact s.transfer_holdsReset x

/-- A step that raises the latch is the host's direct write of 1 in an idle block (44_fpga_reset.md R252). -/
theorem pinWrite_of_step_raises {s t : State} (ht : step s = .next t) (hlow : s.pinRst = false)
    (hhigh : t.pinRst = true) : s.rst = false ∧ s.seq = .idle ∧ ∃ acts, s.inputs = .pinWrite true :: acts := by
  have hkept : t.pinRst ≠ s.pinRst := by rw [hlow, hhigh]; decide
  cases hrst : s.rst with
  | true => rw [step_of_rst hrst] at ht; cases ht; cases hhigh
  | false =>
    cases hs : s.seq with
    | fatal => rw [step_of_fatal hrst hs] at ht; cases ht; exact absurd rfl hkept
    | idle =>
      rcases hi : s.inputs with _ | ⟨w | l, acts⟩
      · rw [step_of_no_input hrst hs hi] at ht; cases ht; exact absurd rfl hkept
      · rw [step_of_command hrst hs hi] at ht
        exact absurd ((exec_holdsReset ht).latch hhigh) (by simp [hlow])
      · rw [step_of_pinWrite hrst hs hi] at ht
        cases ht
        obtain rfl : l = true := hhigh
        exact ⟨rfl, rfl, acts, rfl⟩
    | run k todo =>
      cases todo with
      | nil => rw [step_of_no_line hrst hs] at ht; cases ht; exact absurd rfl hkept
      | cons m rest =>
        rw [step_of_line hrst hs] at ht
        cases ht
        rw [State.microTick_pinRst] at hhigh
        exact absurd ((State.micro_holdsReset _ m).latch hhigh) (by simp [hlow])

/-- Settles O57: the events added are those of the lines, none of which sets the latch to 1; a step that does is the
host's. -/
theorem noCommandReleasesReset : Obligations.NoCommandReleasesReset := by
  refine ⟨fun i s t he => ?_, fun s t => pinWrite_of_step_raises⟩
  obtain ⟨hlatch, evs, htr, hno⟩ := exec_holdsReset he
  refine ⟨hlatch, fun evs' htr' => ?_⟩
  rwa [List.append_cancel_left (htr'.symm.trans htr)]

end Sys2Proof.Machine

/-! ## Proofs of the family 45_init.md: `INIT` with the identity read (O45)

`INIT` is followed line by line (`Arrives`): the bring-up, the read of the identity, and the test of it. -/

namespace Sys2Proof.Machine

open Sys2Proof.Safety

section Init
variable {i : Instr} {s t : State} {rest : List Micro}

/-- Past the three lines that set up the pins and enable the bus (45_init.md R260). -/
theorem Arrives.bringUp (h : Arrives i s t (.cfgRst :: .cfgDone :: .i2cInit :: rest)) :
    Arrives i s t.broughtUp rest := by
  have hrst : Arrives i s (t.micro .cfgRst) (.cfgDone :: .i2cInit :: rest) :=
    h.line fun k todo => ⟨k + 1, todo.tail, rfl⟩
  have hdone : Arrives i s ((t.micro .cfgRst).micro .cfgDone) (.i2cInit :: rest) :=
    hrst.line fun k todo => ⟨k + 1, todo.tail, rfl⟩
  exact hdone.line fun k todo => ⟨k + 1, todo.tail, rfl⟩

/-- Past a register read answered ok, whose byte is kept (41_bus_transport.md R150). -/
theorem Arrives.read {a : Byte} (h : Arrives i s t (.xfer (.regRead a) :: rest)) (he : t.i2cEn = true)
    (hk : (t.answer 0).ok = true) :
    Arrives i s { t with
      ret := (t.answer 0).bytes.b0, asked := t.asked + 1,
      trace := t.trace ++ [.i2cRd a (t.answer 0).bytes.b0] } rest :=
  h.line fun k todo => ⟨k + 1, todo.tail, State.memRead_ok { t with seq := .run k todo } a he hk⟩

/-- The identity test and the line after it complete with `Success` at the expected byte, else with `PmicError`
(45_init.md R260). -/
theorem Arrives.checkId (h : Arrives i s t [.checkId, .complete .success]) :
    exec i s = .next (t.complete (if t.ret = 0x7A then .success else .pmicError)) := by
  by_cases hid : t.ret = 0x7A
  · have hgood : Arrives i s t [.complete .success] := h.line fun k todo => ⟨k + 0, todo.tail, if_pos hid⟩
    rw [if_pos hid, hgood.complete]
  · rw [if_neg hid, h.ends fun _ _ => if_neg hid]

end Init

/-- Settles O45: the bring-up enables the bus the identity is read over, and the byte read decides the result. -/
theorem initResult : Obligations.InitResult := by
  intro ign s hs hk
  have hread := (Arrives.start (i := .init ign) rfl hs).bringUp.read rfl hk
  rw [hread.checkId]
  simp only [State.complete, State.broughtUp, State.micro, State.accept, List.append_assoc]
  rfl

end Sys2Proof.Machine

/-! ## Proofs of the family 60_exceptions.md: the result codes (O54), the causes of `InvalidSetting` (O55) and of the two
identity errors (O56), `FATAL` and `rst` (O13), every step answers a state (O14)

A command's lines can complete with few results (`planResults`), and those are the command's row of R271. Which
command a result belongs to is then read off the table, and the state decides whether the command comes to it. -/

namespace Sys2Proof.Machine

open Sys2Proof.Safety

/-! ### A step always answers (O14), and what leaves `FATAL` (O13) -/

theorem exec_next (i : Instr) (s : State) : ∃ t, exec i s = .next t := by
  rcases exec_cases i s with ⟨plan, -, h⟩ | ⟨x, -, h⟩
  · exact ⟨_, h⟩
  · exact ⟨_, h⟩

/-- Settles O14: a turn is an instruction, whose meaning answers a state, or a state already. -/
theorem stepAlwaysNext : Obligations.StepAlwaysNext := by
  intro s
  cases hturn : s.turn with
  | run i t =>
    rw [step_of_turn_run hturn]
    exact exec_next i t
  | settle t => exact ⟨t, by simp [step, hturn]⟩

/-- Settles O13: the turn in `FATAL` and the turn at `rst`. -/
theorem onlyResetLeavesFatal : Obligations.OnlyResetLeavesFatal :=
  ⟨fun _ hrst hs => step_of_fatal hrst hs, fun _ hrst => step_of_rst hrst⟩

/-! ### A command ends (60_exceptions.md R271, R279) -/

/-- Lines whose last one completes end the command. -/
theorem State.runLines_ended {plan : List Micro} {r : Result} (hlast : plan.getLast? = some (.complete r)) (s : State) :
    (s.runLines plan).busy = false := by
  induction plan generalizing s with
  | nil => cases hlast
  | cons m rest ih =>
    rw [State.runLines_cons]
    cases hb : (s.micro m).busy with
    | false => rw [State.andThen_ended _ _ hb, hb]
    | true =>
      rw [State.andThen_busy _ _ hb]
      cases rest with
      | nil =>
        obtain rfl : m = .complete r := by simpa using hlast
        cases hb
      | cons m' rest' => exact ih (by simpa using hlast) _

theorem State.idle_or_fatal_of_not_busy {s : State} (h : s.busy = false) : s.seq = .idle ∨ s.seq = .fatal := by
  cases hs : s.seq with
  | idle => exact .inl rfl
  | run k todo => simp [State.busy, hs] at h
  | fatal => exact .inr rfl

/-- A command taken by an idle block ends idle or in `FATAL`. -/
theorem exec_idle_or_fatal {i : Instr} {plan : List Micro} {s t : State} (hp : planOf i = some plan)
    (hs : s.seq = .idle) (he : exec i s = .next t) : t.seq = .idle ∨ t.seq = .fatal := by
  obtain ⟨r, hlast⟩ := (planOf_wellBuilt hp).completes
  rw [exec_of_idle hp hs] at he
  cases he
  exact State.idle_or_fatal_of_not_busy (State.runLines_ended hlast _)

/-! ### The results a command can complete with (O54) -/

/-- The results lines can complete with, in the lines' order. -/
def planResults (plan : List Micro) : List Result := plan.filterMap lineResult

theorem fst_mem_planResults {plan : List Micro} {m : Memory} {c : Result × Memory} (hc : c ∈ completions plan m) :
    c.1 ∈ planResults plan := by
  induction plan generalizing m with
  | nil => cases hc
  | cons l rest ih =>
    have hsplit : planResults (l :: rest) = (lineResult l).toList ++ planResults rest := by
      cases hl : lineResult l <;> simp [planResults, hl]
    rw [hsplit]
    rcases List.mem_append.1 hc with h | h
    · obtain ⟨r, hr, rfl⟩ := List.mem_map.1 h
      exact List.mem_append_left _ hr
    · exact List.mem_append_right _ (ih h)

/-- A command that completes past some of its lines completes with a result of the others. -/
theorem Reached.status_mem {i : Instr} {s t : State} {evs : List Event} {ret : Byte} {rest : List Micro}
    (h : Reached i s evs ret rest) (he : exec i s = .next t) (ht : t.seq = .idle) : t.status ∈ planResults rest := by
  obtain ⟨k, todo, h⟩ := h
  rw [h] at he
  cases he
  exact fst_mem_planResults (State.runLines_mem_completions rest _ rfl ht)

/-- The lines of one rail after its checks, for an operand that has a code or needs none (log 25). -/
theorem planResults_setRailLines {r : Rail} {mv : Operand} {code : Option Byte} (hcode : mv.toNat ≠ 0 → code ≠ none) :
    planResults (setRailLines r mv code) = [.success] := by
  unfold setRailLines
  split
  next => rfl
  next h0 =>
    obtain ⟨k, rfl⟩ := Option.ne_none_iff_exists'.1 (hcode h0)
    rfl

theorem planResults_planSetVio (mv : Operand) :
    planResults (planSetVio mv) = if vioRejected mv then [.invalidSetting] else [.success] := by
  rw [planSetVio_eq]
  split
  next => rfl
  next hrej => exact planResults_setRailLines (encVio_ne_none hrej)

/-- Above the interlock's threshold `SET_VAUX` can complete either way (42_pmic_rails.md R190). -/
theorem planResults_planSetVaux (mv : Operand) :
    planResults (planSetVaux mv) = if vauxRejected mv then [.invalidSetting]
      else if needsInterlock mv then [.invalidSetting, .success] else [.success] := by
  rw [planSetVaux_eq]
  split
  next => rfl
  next hrej =>
    have hset : planResults (setRailLines .vaux mv (encVaux mv)) = [.success] :=
      planResults_setRailLines (encVaux_ne_none hrej)
    split
    next => exact congrArg (Result.invalidSetting :: ·) hset
    next => exact hset

/-- The results a command's lines can complete with are those of its row (60_exceptions.md R271). -/
theorem mayComplete_of_mem_planResults {i : Instr} {plan : List Micro} {r : Result} (hp : planOf i = some plan)
    (hr : r ∈ planResults plan) : mayComplete i r := by
  cases i with
  | setVaux mv =>
    cases hp
    rw [planResults_planSetVaux] at hr
    split_ifs at hr
    · exact .inr (List.mem_singleton.1 hr)
    · exact (List.mem_pair.1 hr).symm
    · exact .inl (List.mem_singleton.1 hr)
  | setVio mv =>
    cases hp
    rw [planResults_planSetVio] at hr
    split_ifs at hr
    · exact .inr (List.mem_singleton.1 hr)
    · exact .inl (List.mem_singleton.1 hr)
  | setVfpga ign en => cases hp; cases en <;> exact List.mem_singleton.1 hr
  | flIdent | init =>
    cases hp
    exact (List.mem_pair.1 hr).symm
  | _ => cases hp <;> exact List.mem_singleton.1 hr

/-- A command that completes does so with a result of its row. -/
theorem mayComplete_status {i : Instr} {plan : List Micro} {s t : State} (hp : planOf i = some plan) (hs : s.seq = .idle)
    (he : exec i s = .next t) (ht : t.seq = .idle) : mayComplete i t.status :=
  mayComplete_of_mem_planResults hp ((Reached.start hp hs).status_mem he ht)

/-- Settles O54: a command ends, idle with a result of its lines, or in `FATAL` by one of its transfers. -/
theorem resultCodesClosed : Obligations.ResultCodesClosed := by
  intro i s t hi hs he
  obtain ⟨plan, hp⟩ := planOf_of_isCommand hi
  rcases exec_idle_or_fatal hp hs he with ht | ht
  · exact .inl ⟨ht, mayComplete_status hp hs he ht⟩
  · obtain ⟨-, -, -, -, -, c, hc, -⟩ := abortKeepsResults i s t hi hs he ht
    exact .inr ⟨ht, by rw [hc]; nofun⟩

/-! ### The causes of `InvalidSetting` (O55) -/

theorem cases_of_mayComplete_invalidSetting {i : Instr} (h : mayComplete i .invalidSetting) :
    (∃ mv, i = .setVaux mv) ∨ (∃ mv, i = .setVio mv) ∨ IsReserved i := by
  cases i with
  | setVaux mv => exact .inl ⟨mv, rfl⟩
  | setVio mv => exact .inr (.inl ⟨mv, rfl⟩)
  | reserved0 | reservedD | reservedE | reservedF => exact .inr (.inr (by simp [IsReserved]))
  | _ => simp [mayComplete] at h

/-- A command that completes has had its register access answered ok, with the bus enabled. -/
theorem Reached.answered {i : Instr} {s t : State} {evs : List Event} {ret : Byte} {x : Transfer} {f : Event}
    {rest : List Micro} (h : Reached i s evs ret (.xfer x :: rest)) (hx : accessFailure x = some f)
    (he : exec i s = .next t) (ht : t.seq = .idle) : s.i2cEn = true ∧ (s.answer evs.length).ok = true := by
  cases hen : s.i2cEn with
  | false =>
    obtain ⟨k, todo, h⟩ := h
    have hfail := (s.midway (commandWord i) evs ret (.run k todo)).transfer_access_disabled hx hen
    rw [h, State.runLines_of_transfer_fatal hfail rfl] at he
    cases he
    cases ht
  | true =>
    refine ⟨rfl, ?_⟩
    by_contra hk
    rw [h.cutShort hx hen (by simpa using hk)] at he
    cases he
    cases ht

/-- Above the interlock's threshold `InvalidSetting` comes from the byte read (42_pmic_rails.md R190). -/
theorem loadSwitch_of_setVaux_invalidSetting {mv : Operand} {s t : State} (hlo : 3461 ≤ mv.toNat)
    (hhi : mv.toNat ≤ 5500) (hs : s.seq = .idle) (he : exec (.setVaux mv) s = .next t) (ht : t.seq = .idle)
    (hst : t.status = .invalidSetting) :
    s.i2cEn = true ∧ (s.answer 0).ok = true ∧ (s.answer 0).bytes.b0 &&& vioLswMask ≠ 0 := by
  have hread := reached_setVaux_high hlo hhi hs
  obtain ⟨hen, hk⟩ := hread.answered rfl he ht
  refine ⟨hen, hk, fun hclear => ?_⟩
  have hmem := ((hread.read hen hk).permit hclear).status_mem he ht
  rw [hst] at hmem
  cases List.mem_singleton.1 hmem

/-- A command that completes with `InvalidSetting` has one of the four causes. -/
theorem cause_of_invalidSetting {i : Instr} {s t : State} (hi : IsCommand i) (hs : s.seq = .idle)
    (he : exec i s = .next t) (ht : t.seq = .idle) (hst : t.status = .invalidSetting) : InvalidSettingCause i s := by
  obtain ⟨plan, hp⟩ := planOf_of_isCommand hi
  have hres := (Reached.start hp hs).status_mem he ht
  rw [hst] at hres
  have hmay : mayComplete i .invalidSetting := mayComplete_of_mem_planResults hp hres
  rcases cases_of_mayComplete_invalidSetting hmay with ⟨mv, rfl⟩ | ⟨mv, rfl⟩ | hreserved
  · cases hp
    rw [planResults_planSetVaux] at hres
    split_ifs at hres with hrej hlock
    · exact .inl ⟨mv, rfl, vauxRejected_iff.1 hrej⟩
    · have hlo := needsInterlock_iff.1 hlock
      have hhi : mv.toNat ≤ 5500 := by rw [vauxRejected_iff] at hrej; omega
      exact .inr (.inl ⟨mv, rfl, hlo, hhi, loadSwitch_of_setVaux_invalidSetting hlo hhi hs he ht hst⟩)
    · cases List.mem_singleton.1 hres
  · cases hp
    rw [planResults_planSetVio] at hres
    split_ifs at hres with hrej
    · exact .inr (.inr (.inl ⟨mv, rfl, vioRejected_iff.1 hrej⟩))
    · cases List.mem_singleton.1 hres
  · exact .inr (.inr (.inr hreserved))

/-- The command completes with `InvalidSetting` after transfers that wrote no register. -/
def RejectedUnwritten (i : Instr) (s : State) : Prop :=
  ∃ evs ret, (∀ e ∈ evs, ¬ TouchesPmic e) ∧ exec i s = .next (i2cCompleted s (commandWord i) evs ret .invalidSetting)

theorem rejectedUnwritten_of_planOf {i : Instr} {s : State} (hp : planOf i = some [.complete .invalidSetting])
    (hs : s.seq = .idle) : RejectedUnwritten i s :=
  ⟨[], s.ret, by simp, (Reached.start hp hs).complete⟩

/-- The range check and the reserved opcode come before any transfer, the interlock after its read (60_exceptions.md
R272, R280). -/
theorem rejectedUnwritten_of_cause {i : Instr} {s : State} (hc : InvalidSettingCause i s) (hs : s.seq = .idle) :
    RejectedUnwritten i s := by
  rcases hc with ⟨mv, rfl, hout⟩ | ⟨mv, rfl, hlo, hhi, hen, hk, hset⟩ | ⟨mv, rfl, hout⟩ | hreserved
  · exact rejectedUnwritten_of_planOf (congrArg some (if_pos (vauxRejected_iff.2 hout))) hs
  · exact ⟨_, _, by simp [TouchesPmic], ((reached_setVaux_high hlo hhi hs).read hen hk).reject hset⟩
  · exact rejectedUnwritten_of_planOf (congrArg some (if_pos (vioRejected_iff.2 hout))) hs
  · exact rejectedUnwritten_of_planOf (planOf_of_isReserved hreserved) hs

/-- Settles O55: the results of the lines and the byte read lead to the cause, and a command with a cause completes
before it writes. -/
theorem invalidSettingCauses : Obligations.InvalidSettingCauses := by
  intro i s t hi hs he
  refine ⟨⟨fun ⟨ht, hst⟩ => cause_of_invalidSetting hi hs he ht hst, fun hc => ?_⟩, fun hc => ?_⟩
  · obtain ⟨evs, ret, -, hend⟩ := rejectedUnwritten_of_cause hc hs
    rw [hend] at he
    cases he
    exact ⟨rfl, rfl⟩
  · obtain ⟨evs, ret, hno, hend⟩ := rejectedUnwritten_of_cause hc hs
    rw [hend] at he
    cases he
    refine ⟨foldl_pmicAfter_of_not_touchesPmic hno s.pmicW, rfl, _, rfl, fun a d hmem => ?_⟩
    have hevs : Event.i2cWr a d ∈ evs := by simpa using hmem
    exact hno _ hevs trivial

/-! ### The causes of `PmicError` and `FlashError` (O56) -/

theorem eq_init_of_mayComplete_pmicError {i : Instr} (h : mayComplete i .pmicError) : ∃ g, i = .init g := by
  cases i with
  | init g => exact ⟨g, rfl⟩
  | _ => simp [mayComplete] at h

theorem eq_flIdent_of_mayComplete_flashError {i : Instr} (h : mayComplete i .flashError) : ∃ g, i = .flIdent g := by
  cases i with
  | flIdent g => exact ⟨g, rfl⟩
  | _ => simp [mayComplete] at h

/-- `INIT` completes with `PmicError` exactly at another byte than the expected one; a failed read aborts it instead
(45_init.md R260, 60_exceptions.md R282). -/
theorem init_pmicError_iff {g : Operand} {s t : State} (hs : s.seq = .idle) (he : exec (.init g) s = .next t) :
    (t.seq = .idle ∧ t.status = .pmicError) ↔ (s.answer 0).ok = true ∧ (s.answer 0).bytes.b0 ≠ 0x7A := by
  cases hk : (s.answer 0).ok with
  | false =>
    obtain ⟨-, hcut, -⟩ := otherTransfersCutShort
    rw [hcut g s hs hk] at he
    cases he
    simp
  | true =>
    rw [initResult g s hs hk] at he
    cases he
    simp

/-- `FL_IDENT` completes with `FlashError` exactly at another byte than the expected one; a failed frame aborts it
instead (43_flash.md R225, 60_exceptions.md R282). -/
theorem flIdent_flashError_iff {g : Operand} {s t : State} (hs : s.seq = .idle)
    (he : exec (.flIdent g) s = .next t) :
    (t.seq = .idle ∧ t.status = .flashError) ↔ (s.answer 0).ok = true ∧ (s.answer 0).bytes.b3 ≠ 0x16 := by
  cases hk : (s.answer 0).ok with
  | false =>
    rw [exec_of_firstFrame_fail (i := .flIdent g) rfl rfl hs hk] at he
    cases he
    simp [spiCutShort]
  | true =>
    rw [flIdentResult g s hs hk] at he
    cases he
    simp

/-- A command that can complete with a result other than `Success` does not store to `RDATA` (10_state.md R24). -/
theorem rdata_of_mayComplete {i : Instr} {s t : State} {r : Result} (hi : IsCommand i) (he : exec i s = .next t)
    (hr : mayComplete i r) (hne : r ≠ .success) : t.rdata = s.rdata := by
  obtain ⟨-, -, -, hrdata, -⟩ := commandFrame i s t hi he
  refine hrdata ?_ ?_
  · rintro a g rfl
    exact hne hr
  · rintro g rfl
    exact hne hr

/-- Settles O56: the table gives each of the two results to one command, the byte that command receives decides, and
neither command stores to `RDATA`. -/
theorem identityErrorCauses : Obligations.IdentityErrorCauses := by
  intro i s t hi hs he
  obtain ⟨plan, hp⟩ := planOf_of_isCommand hi
  have hmay : t.seq = .idle → mayComplete i t.status := mayComplete_status hp hs he
  refine ⟨⟨fun ⟨ht, hst⟩ => ?_, ?_⟩, ⟨fun ⟨ht, hst⟩ => ?_, ?_⟩, fun hst ht => ?_⟩
  · obtain ⟨g, rfl⟩ := eq_init_of_mayComplete_pmicError (hst ▸ hmay ht)
    exact ⟨⟨g, rfl⟩, (init_pmicError_iff hs he).1 ⟨ht, hst⟩⟩
  · rintro ⟨⟨g, rfl⟩, hbyte⟩
    exact (init_pmicError_iff hs he).2 hbyte
  · obtain ⟨g, rfl⟩ := eq_flIdent_of_mayComplete_flashError (hst ▸ hmay ht)
    exact ⟨⟨g, rfl⟩, (flIdent_flashError_iff hs he).1 ⟨ht, hst⟩⟩
  · rintro ⟨⟨g, rfl⟩, hbyte⟩
    exact (flIdent_flashError_iff hs he).2 hbyte
  · refine rdata_of_mayComplete hi he (hmay ht) ?_
    rcases hst with hst | hst <;> rw [hst] <;> nofun

end Sys2Proof.Machine

/-! ## Proofs of the family 70_reset_and_hazards.md: the spacing of the flash (O25)

A trace is spaced if each two events next to each other are (`Spaced`), so it is enough to look at the events one move of
a step adds, and at the first of them where something is due. The lines of a command show what is due after a frame:
it is the line that stands next (`dueNext`). -/

namespace Sys2Proof.Machine

open Sys2Proof.Safety

/-! ### The traces that are spaced -/

/-- Whatever is due after the first event, the second one is its doing. -/
def Spaced (e e' : Event) : Prop := ∀ m, dueAfter e = some m → isDoing m e'

theorem spacedTrace_iff_isChain {tr : List Event} : SpacedTrace tr ↔ tr.IsChain Spaced := by
  rw [List.isChain_iff_forall_rel_of_append_cons_cons]
  exact ⟨fun h e e' pre post htr m => h pre e e' post m htr, fun h pre e e' post m htr => h htr m⟩

/-- The event is no frame done. -/
def NotFrame (e : Event) : Prop := ∀ tx rx, e ≠ .spiFrame tx rx

theorem NotFrame.dueAfter_eq_none {e : Event} (h : NotFrame e) : dueAfter e = none := by
  cases e with
  | spiFrame tx rx => exact absurd rfl (h tx rx)
  | _ => rfl

theorem NotFrame.spaced {e : Event} (h : NotFrame e) (e' : Event) : Spaced e e' := by
  intro m hd
  rw [h.dueAfter_eq_none] at hd
  cases hd

/-- Four lines can be due (70_reset_and_hazards.md R325, R326, R327). -/
theorem eq_of_dueAfter {e : Event} {m : Micro} (h : dueAfter e = some m) :
    m = .delay 3 ∨ m = .xfer .resetConfirm ∨ m = .delay 30 ∨ m = .xfer .chipErase := by
  unfold dueAfter at h
  split at h
  · split_ifs at h <;> cases h <;> simp
  · cases h

/-! ### What one move of a step adds -/

/-- From the one state to the other the trace grew by spaced events, what is due after the last of them is the next line,
and a frame comes after the SPI initialisation. -/
structure AddsSpaced (s t : State) (evs : List Event) : Prop where
  trace : t.trace = s.trace ++ evs
  spaced : evs.IsChain Spaced
  next : ∀ e m, evs.getLast? = some e → dueAfter e = some m → ∃ k rest, t.seq = .run k (m :: rest)
  spiInit : t.spiInit = false → s.spiInit = false ∧ ∀ e ∈ evs, NotFrame e

/-- Nothing is due inside or after events that are no frames. -/
theorem AddsSpaced.of_notFrame {s t : State} {evs : List Event} (htr : t.trace = s.trace ++ evs)
    (hno : ∀ e ∈ evs, NotFrame e) (hspi : t.spiInit = false → s.spiInit = false) : AddsSpaced s t evs where
  trace := htr
  spaced := List.isChain_iff_forall_rel_of_append_cons_cons.2 fun _ _ _ _ h => (hno _ (by simp [h])).spaced _
  next e m he hd := by
    rw [(hno e (List.mem_of_getLast? he)).dueAfter_eq_none] at hd
    cases hd
  spiInit h := ⟨hspi h, hno⟩

/-- Something is due only while a command is in progress and past its first frame. -/
theorem due_of_flashSpacing {s : State} {e : Event} {m : Micro} (h : FlashSpacing s) (he : s.trace.getLast? = some e)
    (hd : dueAfter e = some m) : s.spiInit = true ∧ ∃ k rest, s.seq = .run k (m :: rest) := by
  obtain ⟨-, hnext, hframe, -⟩ := h
  refine ⟨?_, hnext e m he hd⟩
  by_contra hspi
  have hno : NotFrame e := fun tx rx hf =>
    hframe (Bool.eq_false_iff.2 hspi) tx rx (hf ▸ List.mem_of_getLast? he)
  rw [hno.dueAfter_eq_none] at hd
  cases hd

/-- Spaced events that begin with the doing of what was due keep the spacing. -/
theorem flashSpacing_append {s t : State} {evs : List Event} (h : FlashSpacing s) (hadd : AddsSpaced s t evs)
    (hplan : OnPlan t)
    (hfirst : ∀ e m, s.trace.getLast? = some e → dueAfter e = some m → ∃ e' ∈ evs.head?, isDoing m e') :
    FlashSpacing t := by
  obtain ⟨hspaced, -, hframe, -⟩ := h
  obtain ⟨htr, hchain, hnext, hspi⟩ := hadd
  refine ⟨?_, fun e m he hd => ?_, fun hinit tx rx hmem => ?_, hplan⟩
  · rw [htr, spacedTrace_iff_isChain, List.isChain_append]
    refine ⟨spacedTrace_iff_isChain.1 hspaced, hchain, fun e he e' he' m hd => ?_⟩
    obtain ⟨e'', he'', hdo⟩ := hfirst e m he hd
    rwa [Option.mem_unique he' he'']
  · cases evs with
    | nil =>
      rw [htr, List.append_nil] at he
      obtain ⟨_, hnone, -⟩ := hfirst e m he hd
      cases hnone
    | cons e' post =>
      rw [htr, List.getLast?_append_of_ne_nil _ (List.cons_ne_nil e' post)] at he
      exact hnext e m he hd
  · obtain ⟨hinit', hno⟩ := hspi hinit
    rw [htr] at hmem
    rcases List.mem_append.1 hmem with hold | hnew
    · exact hframe hinit' tx rx hold
    · exact hno _ hnew tx rx rfl

/-- Nothing is due in an idle block, so any events that are no frames may follow. -/
theorem flashSpacing_append_of_idle {s t : State} {evs : List Event} (h : FlashSpacing s) (hs : s.seq = .idle)
    (htr : t.trace = s.trace ++ evs) (hno : ∀ e ∈ evs, NotFrame e) (hspi : t.spiInit = s.spiInit) (hplan : OnPlan t) :
    FlashSpacing t := by
  refine flashSpacing_append h (.of_notFrame htr hno fun hinit => hspi ▸ hinit) hplan fun e m he hd => ?_
  obtain ⟨-, k, rest, hrun⟩ := due_of_flashSpacing h he hd
  rw [hs] at hrun
  cases hrun

/-! ### What is due after a frame is the next line -/

/-- What is due after the frame of a transfer. -/
def frameDue (x : Transfer) : Option Micro := dueAfter (.spiFrame (frameBytes (transferInstr x)) [])

/-- The bytes received do not matter. -/
theorem dueAfter_frame (x : Transfer) (rx : List Byte) :
    dueAfter (.spiFrame (frameBytes (transferInstr x)) rx) = frameDue x := rfl

theorem isFrame_of_frameDue {x : Transfer} {m : Micro} (h : frameDue x = some m) : isFrame x = true := by
  cases x with
  | regWrite | regRead => cases h
  | _ => rfl

/-- If the first line is a frame, the line due after it is the second one. -/
def dueNext : List Micro → Bool
  | .xfer x :: rest => (frameDue x).all fun m => rest.head? == some m
  | _ => true

theorem eq_cons_of_dueNext {x : Transfer} {m : Micro} {rest : List Micro} (h : dueNext (.xfer x :: rest) = true)
    (hd : frameDue x = some m) : ∃ rest', rest = m :: rest' := by
  rw [dueNext, hd] at h
  exact List.head?_eq_some_iff.1 (beq_iff_eq.1 h)

/-- Lines that start with no frame have nothing due. -/
theorem dueNext_of_not_flash {todo : List Micro} (h : ∀ m ∈ todo, lineKind m ≠ .flash) : dueNext todo = true := by
  cases todo with
  | nil => rfl
  | cons m rest =>
    cases m with
    | xfer x =>
      have hx : isFrame x = false := isFrame_of_lineKind_ne_flash (h _ List.mem_cons_self)
      have hd : frameDue x = none :=
        Option.eq_none_iff_forall_ne_some.2 fun m hm => by simp [isFrame_of_frameDue hm] at hx
      simp [dueNext, hd]
    | _ => rfl

/-- Checks the ends of a plan. -/
theorem dueNext_of_all_tails {plan todo : List Micro} (h : plan.tails.all dueNext = true) (hsuf : todo <:+ plan) :
    dueNext todo = true :=
  List.all_eq_true.1 h todo ((List.mem_tails todo plan).2 hsuf)

/-- Wherever a command is in its lines, what is due after the next frame is the line after it (43_flash.md R221, R223,
R227). -/
theorem dueNext_of_suffix {i : Instr} {plan todo : List Micro} (hp : planOf i = some plan) (hsuf : todo <:+ plan) :
    dueNext todo = true := by
  by_cases hi : IsFlashCommand i
  · cases i with
    | flWake | flReset | flIdent | flErase | flBusy => cases hp; exact dueNext_of_all_tails (by decide) hsuf
    | _ => simp [IsFlashCommand] at hi
  · refine dueNext_of_not_flash fun m hm hflash => flash_notMem_lineKinds hi ?_
    exact hflash ▸ lineKind_mem hp (hsuf.subset hm)

/-! ### A line -/

/-- A frame is encoded as its bytes. -/
theorem encode_of_isFrame {x : Transfer} (h : isFrame x = true) :
    encode (transferInstr x) = .spi (frameBytes (transferInstr x)) := by
  cases x with
  | regWrite | regRead => cases h
  | _ => rfl

theorem notFrame_of_mem_spiInitEvents {s : State} {e : Event} (h : e ∈ spiInitEvents s) : NotFrame e := by
  unfold spiInitEvents at h
  split at h
  · cases h
  · obtain rfl := List.mem_singleton.1 h
    nofun

/-- A register access adds no frame. -/
theorem State.transfer_register_addsSpaced (s : State) {x : Transfer} (hx : isFrame x = false) :
    ∃ evs, AddsSpaced s (s.transfer x) evs := by
  obtain ⟨_, _, _, _, evs, ht, h⟩ := s.transfer_register hx
  refine ⟨evs, .of_notFrame (by rw [h]) ?_ fun hinit => by rwa [h] at hinit⟩
  cases ht <;> simp [NotFrame]

/-- A frame adds itself or its failure, and what is due after it is the next line. -/
theorem State.transfer_frame_addsSpaced {s : State} {k : Nat} {x : Transfer} {rest : List Micro}
    (hs : s.seq = .run k (.xfer x :: rest)) (hdue : dueNext (.xfer x :: rest) = true) (hx : isFrame x = true) :
    ∃ evs, AddsSpaced s (s.transfer x) evs := by
  rw [s.transfer_of_encode_spi (encode_of_isFrame hx)]
  cases hk : (s.answer 0).ok with
  | false =>
    rw [s.spiXfer_fail _ hk]
    refine ⟨_, .of_notFrame rfl (fun e he => ?_) nofun⟩
    rcases List.mem_append.1 he with hinit | hfail
    · exact notFrame_of_mem_spiInitEvents hinit
    · simp only [List.mem_cons, List.not_mem_nil, or_false] at hfail
      rcases hfail with rfl | rfl <;> nofun
  | true =>
    rw [s.spiXfer_ok _ hk]
    refine ⟨_, rfl, ?_, fun e m he hd => ?_, nofun⟩
    · cases s.spiInit <;> simp [Spaced, dueAfter]
    · rw [List.getLast?_append_of_ne_nil _ (List.cons_ne_nil _ _), List.getLast?_singleton] at he
      cases he
      obtain ⟨rest', rfl⟩ := eq_cons_of_dueNext hdue ((dueAfter_frame x _).symm.trans hd)
      cases hi : s.spiInit <;> simp [hs]

theorem State.complete_addsSpaced (s : State) (r : Result) : ∃ evs, AddsSpaced s (s.complete r) evs :=
  ⟨_, .of_notFrame rfl (by simp [NotFrame]) id⟩

theorem State.advance_addsSpaced (s : State) (n : Nat) : ∃ evs, AddsSpaced s (s.advance n) evs :=
  ⟨[], .of_notFrame (by simp) (by simp) id⟩

theorem State.micro_addsSpaced {s : State} {k : Nat} {m : Micro} {rest : List Micro} (hs : s.seq = .run k (m :: rest))
    (hdue : dueNext (m :: rest) = true) : ∃ evs, AddsSpaced s (s.micro m) evs := by
  cases m with
  | xfer x =>
    cases hx : isFrame x with
    | false => exact s.transfer_register_addsSpaced hx
    | true => exact State.transfer_frame_addsSpaced hs hdue hx
  | complete r => exact s.complete_addsSpaced r
  | checkInterlock =>
    simp only [State.micro]
    split
    · exact s.complete_addsSpaced _
    · exact s.advance_addsSpaced _
  | checkId | checkCapacity =>
    simp only [State.micro]
    split
    · exact s.advance_addsSpaced _
    · exact s.complete_addsSpaced _
  | storeByte | storeBusy | wait => exact ⟨[], .of_notFrame (by simp [State.micro]) (by simp) id⟩
  | _ => exact ⟨[_], .of_notFrame rfl (by simp [NotFrame]) id⟩

/-- After the SPI initialisation the first event of a frame is the frame, or its failure. -/
theorem State.spiXfer_first {s : State} (tx : List Byte) (hspi : s.spiInit = true) :
    ∃ e evs, (s.spiXfer tx).trace = s.trace ++ e :: evs ∧ ((∃ rx, e = .spiFrame tx rx) ∨ e = .spiFail tx) := by
  cases hk : (s.answer 0).ok with
  | false => exact ⟨.spiFail tx, [.fatal .spi], by simp [s.spiXfer_fail tx hk, hspi], .inr rfl⟩
  | true =>
    exact ⟨.spiFrame tx ((s.answer 0).bytes.take tx.length), [], by simp [s.spiXfer_ok tx hk, hspi], .inl ⟨_, rfl⟩⟩

/-- A line that was due does at once what was due. -/
theorem State.micro_isDoing {s : State} {e : Event} {m : Micro} (hd : dueAfter e = some m) (hspi : s.spiInit = true) :
    ∃ e' evs, (s.micro m).trace = s.trace ++ e' :: evs ∧ isDoing m e' := by
  rcases eq_of_dueAfter hd with rfl | rfl | rfl | rfl
  · exact ⟨_, [], rfl, rfl⟩
  · exact s.spiXfer_first [0x99] hspi
  · exact ⟨_, [], rfl, rfl⟩
  · exact s.spiXfer_first [0x60] hspi

theorem flashSpacing_line {s : State} {k : Nat} {m : Micro} {rest : List Micro} (hs : s.seq = .run k (m :: rest))
    (h : FlashSpacing s) : FlashSpacing (s.micro m) := by
  have ⟨_, _, _, hplan⟩ := h
  obtain ⟨plan, hp, hsuf⟩ := hplan k _ hs
  obtain ⟨evs, hadd⟩ := State.micro_addsSpaced hs (dueNext_of_suffix hp hsuf)
  refine flashSpacing_append h hadd (onPlan_line hs hplan) fun e m' he hd => ?_
  obtain ⟨hspi, k', rest', hs'⟩ := due_of_flashSpacing h he hd
  rw [hs] at hs'
  cases hs'
  obtain ⟨e', post, htr, hdo⟩ := State.micro_isDoing hd hspi
  obtain rfl : evs = e' :: post := List.append_cancel_left (hadd.trace.symm.trans htr)
  exact ⟨e', rfl, hdo⟩

/-! ### Every step -/

theorem flashSpacing_keptByMoves : KeptByMoves FlashSpacing where
  reset s := ⟨spacedTrace_iff_isChain.2 .nil, nofun, fun _ _ _ => List.not_mem_nil, nofun⟩
  ports _ _ h := h
  pinWrite s l hs h := by
    have ⟨_, _, _, hplan⟩ := h
    exact flashSpacing_append_of_idle h hs (evs := [.pinSet l]) rfl (by simp [NotFrame]) rfl hplan
  accept i plan s h hs hp :=
    flashSpacing_append_of_idle h hs (evs := [.accept (commandWord i)]) rfl (by simp [NotFrame]) rfl (onPlan_accept hp s)
  line _ _ _ _ hs h := flashSpacing_line hs h
  tick _ _ _ _ h := h

/-- Settles O25: every move of a step keeps the spacing, a line because it does what is due first and has what is due next
after it. -/
theorem flashSpacingKept : Obligations.FlashSpacingKept :=
  ⟨fun _ _ => flashSpacing_keptByMoves.step, flashSpacing_keptByMoves.accept⟩

end Sys2Proof.Machine
